-- ==== Sys2Proof/Word.lean ====
section
/-! DEFINITION. The block's two data widths: a byte of a buffer and a 32-bit register or command word (R7). -/

namespace Sys2Proof

/-- One byte of the ROM buffer or the SHEET buffer (R7). -/
abbrev Byte := BitVec 8

/-- A 32-bit register value or command word (R7, R80). -/
abbrev Word := BitVec 32

end Sys2Proof
end

