-- ==== Sys2Proof/Config.lean ====
section
/-! DEFINITION. What an implementation fixes (ROM_CAP), and the free values: constants with no body, about which
nothing can be proved but their type. Each is applied to the number of a draw (`State.draws`), so that every draw is a
new one. -/

namespace Sys2Proof.Config

/-- The least ROM_CAP (R5): every CHR region a header can name ends at or below it (R113). -/
def romCapMin : Nat := 6267408

/-- The greatest ROM_CAP (R5). -/
def romCapMax : Nat := 16777216

/-- The implementer's choice of the ROM buffer's size. Free (U1, log entry 1). -/
opaque romCapChoice : Nat

/-- ROM_CAP, the ROM buffer's size in bytes: any number within R5's bounds (log entry 1). -/
def romCap : Nat := min romCapMax (max romCapMin romCapChoice)

/-- `n <= ROM_CAP`, answered without looking at the free choice where `n` is at most the least ROM_CAP. -/
def withinRomCap (n : Nat) : Bool := decide (n ≤ romCapMin) || decide (n ≤ romCap)

/-- The number of host steps that come before the completion of the command accepted at draw `d`, that is LATENCY - 1
(R5, U2). Free: any finite number, with no bound (log entry 2). -/
opaque hostStepsFirst : Nat → Nat

/-- ROM byte `a` after the reset of draw `d` (R183). Free (log entry 3). -/
opaque anyRomByte : Nat → Nat → Byte

/-- SHEET byte `a` after the reset, or the tainted COMPOSE, of draw `d` (R183, R186). Free (log entries 3 and 4). -/
opaque anySheetByte : Nat → Nat → Byte

/-- STATUS.ERR after the tainted completion of draw `d`: any value from 0 to 15 (R186). Free (log entry 4). -/
opaque anyErr : Nat → BitVec 4

/-- FORMAT after a tainted INSPECT or PREPARE (R186). Free (log entry 4). -/
opaque anyFormat : Nat → BitVec 2

/-- CHR_OFFSET after a tainted LOCATE or PREPARE (R186). Free (log entry 4). -/
opaque anyChrOffset : Nat → Word

/-- CHR_LENGTH after a tainted LOCATE or PREPARE (R186). Free (log entry 4). -/
opaque anyChrLength : Nat → Word

/-- Tile byte `j` after a tainted FETCH (R186). Free (log entry 4). -/
opaque anyTileByte : Nat → Nat → Byte

/-- TILE_INDEX after a tainted FETCH (R186). Free (log entry 4). -/
opaque anyTileIndex : Nat → BitVec 28

/-- PIX after a tainted PIXEL, which no run reaches (log entry 13). Free. -/
opaque anyPix : Nat → BitVec 2

/-- CONV after a tainted CONVERT, which no run reaches (log entry 13). Free. -/
opaque anyConv : Nat → BitVec 16

/-- SHEET_GROUP after a tainted COMPOSE (R186). Free (log entry 4). -/
opaque anySheetGroup : Nat → BitVec 28

/-- SHEET_TILES after a tainted COMPOSE (R186). Free (log entry 4). -/
opaque anySheetTiles : Nat → BitVec 9

/-- What a host read of an in-flight command's result register returns at draw `d` (R187). Free (log entry 5). -/
opaque anyReadWord : Nat → Word

/-- What a host read of a SHEET byte returns at draw `d` while a COMPOSE is in flight (R187). Free (log entry 5). -/
opaque anyReadByte : Nat → Byte

end Sys2Proof.Config
end

