-- ==== Sys2Proof/Machine/HostOp.lean ====
section
/-! DEFINITION. What the HOST agent can do (92 D2, R93 to R95), and what EXPORT shows the outside world (R154), as plain
data. Log entries 6, 10, 11 and 17. -/

namespace Sys2Proof.Machine

/-- One action of the host: a bus access, the reset input, a wait, or a piece of the EXPORT sequence. -/
inductive HostOp where
  /-- A bus write of `width` bits (R66); an 8-bit write carries the low byte of `value` (log entry 7). -/
  | write (width addr : Nat) (value : Word)
  /-- A bus read of `width` bits (R66). -/
  | read (width addr : Nat)
  /-- Assert the RESET input (R93, R180). -/
  | reset
  /-- WAIT: poll STATUS until the last command has completed (R94). -/
  | wait
  /-- The interrupt-driven wait: until `irq`, then clear IRQ_STATUS.DONE (R94, R168, R169). -/
  | waitIrq
  /-- EXPORT bytes, P (R95). -/
  | exportImage (path : String) (bytes : List Byte)
  /-- EXPORT after its PREPARE and WAIT: report the error, or read GROUP_COUNT and start the group loop (R95). -/
  | exportVerdict (path : String)
  /-- EXPORT's loop over groups, at group `g` of `n` (R95). -/
  | exportGroup (path : String) (g n : Nat)
  /-- EXPORT's hand-over of the SHEET buffer to the PNG encoder, as group `g` (R95). -/
  | exportEmit (path : String) (g : Nat)
  deriving DecidableEq, Repr

/-- What an export shows: a diagnostic, or a raster handed to the PNG encoder under a file name (R154). -/
inductive HostEvent where
  /-- The line the host reports (R95, R154). -/
  | diagnostic (line : String)
  /-- SHEET bytes 0 to 49151, in order, and the file name (R95, R154). -/
  | raster (name : String) (bytes : List Byte)
  deriving DecidableEq, Repr

/-- The host's own variables: its remaining program, the value its last read returned, WAIT's `e`, and what EXPORT has
shown so far, oldest first. No part of the block (log entry 6). -/
structure HostState where
  program : List HostOp
  data : Word
  e : BitVec 4
  emitted : List HostEvent
  deriving DecidableEq, Repr

end Sys2Proof.Machine
end

