-- ==== Sys2Proof/Machine/State.lean ====
section
/-! DEFINITION. The machine's state (R46) with the model's own fields, the two reasons to stop, and the state after
reset (R181, R183). -/

namespace Sys2Proof.Machine

/-- No rule traps, halts or hangs the block (R160; 93 part 2: nothing is a fault), so no fault has a name and no step
answers one (log entry 15). Safe. -/
inductive Fault where
  deriving DecidableEq, Repr

/-- Why a step gives no next state. -/
inductive Refusal where
  /-- A command without a meaning in this model, by its mnemonic. Raised by no command (all seven have one). Safe. -/
  | notModelled (mnemonic : String)
  /-- HostBusError (R178): a host access that the bus map (R69) or the access rules (R66) give no meaning. Raised by the
  host's bus reads and writes, by no command. Safe: no claim is made of a run that contains one. -/
  | hostBusError
  deriving DecidableEq, Repr

/-- A byte buffer: the bytes known by a write, in strictly rising order of their addresses, and the number of the draw
that every other byte comes from (R183). A byte with no cell has no known value: it reads as a free one (log entry 3). -/
structure Memory where
  cells : List Host.Cell
  draw : Nat
  deriving DecidableEq, Repr

/-- The canonical form of a buffer's cells: strictly rising addresses. -/
abbrev Memory.wf (m : Memory) : Prop := m.cells.Pairwise (fun c d => c.1 < d.1)

/-- The state of the block (R46), then the model's own fields. -/
structure State where
  /-- `inflight` (R44): the accepted command word that has not completed. STATUS.BUSY is its presence. -/
  busyWord : Option Word
  /-- `tainted` (R45): the host wrote an input of the in-flight command. -/
  tainted : Bool
  /-- STATUS.ERR (R24). -/
  err : BitVec 4
  /-- IRQ_STATUS [2:0]: OVR, ERR, DONE (R25). -/
  irqStatus : BitVec 3
  /-- IRQ_ENABLE [2:0]: OVR_E, ERR_E, DONE_E (R26). -/
  irqEnable : BitVec 3
  /-- ROM_LEN (R27). -/
  romLen : Word
  /-- FORMAT [1:0]: NES20, VALID_INES (R28). -/
  format : BitVec 2
  /-- CHR_OFFSET (R29). -/
  chrOffset : Word
  /-- CHR_LENGTH (R30). -/
  chrLength : Word
  /-- TILE_INDEX (R33). -/
  tileIndex : BitVec 28
  /-- The tile buffer, TILE_DATA0 to TILE_DATA3 (R34, R40). -/
  tile : Vector Byte 16
  /-- PIX (R35). -/
  pix : BitVec 2
  /-- CONV (R36). -/
  conv : BitVec 16
  /-- SHEET_GROUP (R37). -/
  sheetGroup : BitVec 28
  /-- SHEET_TILES (R38). -/
  sheetTiles : BitVec 9
  /-- The ROM buffer (R41). -/
  rom : Memory
  /-- The SHEET buffer (R42). -/
  sheet : Memory
  /-- The model's own: host steps that still come before the in-flight command's completion (log entry 2). -/
  engineWait : Nat
  /-- The model's own: the number of the next draw of free values (log entries 3, 4 and 5). -/
  draws : Nat
  /-- The model's own: the HOST agent (log entry 6). -/
  host : HostState
  deriving DecidableEq, Repr

/-- The machine right after power-on reset: every register as R181 says, both buffers any value (R183). The model's own
fields start empty or at the first unused draw (log entry 8). -/
def State.reset : State where
  busyWord := none
  tainted := false
  err := 0
  irqStatus := 0
  irqEnable := 0
  romLen := 0
  format := 0
  chrOffset := 0
  chrLength := 0
  tileIndex := 0
  tile := Vector.replicate 16 0
  pix := 0
  conv := 0
  sheetGroup := 0
  sheetTiles := 0
  rom := { cells := [], draw := 0 }
  sheet := { cells := [], draw := 0 }
  engineWait := 0
  draws := 1
  host := { program := [], data := 0, e := 0, emitted := [] }

end Sys2Proof.Machine
end

