-- ==== Sys2Proof/Machine/Flags.lean ====
section
/-! DEFINITION. Error codes and flag bits: STATUS.ERR (R161), IRQ_STATUS (R25, R167), FORMAT (R28), and the derived
`irq` and STATUS.BUSY. -/

namespace Sys2Proof.Machine

/-- The error codes a command can report (R161). -/
inductive ErrCode where
  | none
  | tooSmall
  | unsupportedFormat
  | illegalCommand
  | tileRange
  | groupRange
  deriving DecidableEq, Repr

/-- The code as STATUS.ERR shows it (R161). -/
def ErrCode.code : ErrCode → BitVec 4
  | .none => 0
  | .tooSmall => 1
  | .unsupportedFormat => 2
  | .illegalCommand => 3
  | .tileRange => 4
  | .groupRange => 5

/-- IRQ_STATUS.DONE and IRQ_ENABLE.DONE_E, bit 0 (R25, R26). -/
def irqDone : BitVec 3 := 1

/-- IRQ_STATUS.ERR and IRQ_ENABLE.ERR_E, bit 1 (R25, R26). -/
def irqErr : BitVec 3 := 2

/-- IRQ_STATUS.OVR and IRQ_ENABLE.OVR_E, bit 2 (R25, R26). -/
def irqOvr : BitVec 3 := 4

/-- The IRQ_STATUS bits a completion with error code `code` sets (R165): DONE, and ERR if the code is not 0. -/
def completionBits (code : BitVec 4) : BitVec 3 := if code = 0 then irqDone else irqDone ||| irqErr

/-- FORMAT from its two flags: VALID_INES in bit 0, NES20 in bit 1 (R28). -/
def formatBits (validInes nes20 : Bool) : BitVec 2 := BitVec.ofBool nes20 ++ BitVec.ofBool validInes

/-- STATUS.BUSY (R24, R44): a command is in flight. -/
def State.busy (s : State) : Bool := s.busyWord.isSome

/-- The interrupt output (R168): some enabled bit is pending. -/
def State.irq (s : State) : Bool := decide (s.irqStatus &&& s.irqEnable ≠ 0)

end Sys2Proof.Machine
end

