-- ==== Sys2Proof/Syntax.lean ====
section
/-! DEFINITION. The block's commands, one constructor per row of spec/opcode_table.json. -/

namespace Sys2Proof

/-- A command the engine can run (R2, R81 to R87). Every operand is an unsigned field (R91): tile and group indices are
natural numbers, below 2^28 in a well-formed command; rows and columns are 3-bit fields; plane bytes are bytes. -/
inductive Instr where
  /-- INSPECT: check the iNES magic and detect NES 2.0 (R81, R100). -/
  | inspect
  /-- LOCATE: compute the CHR region (R82, R110). -/
  | locate
  /-- PREPARE: the export checks (R83, R150). -/
  | prepare
  /-- FETCH T: load tile `t` into the tile buffer (R84, R122). -/
  | fetch (t : Nat)
  /-- PIXEL X, Y: the colour index of column `x`, row `y` of the tile buffer (R85, R123). -/
  | pixel (x y : BitVec 3)
  /-- CONVERT LO, HI: one row from its two plane bytes (R86, R124). -/
  | convert (lo hi : Byte)
  /-- COMPOSE G: compose group `g` into the SHEET buffer (R87, R143). -/
  | compose (g : Nat)
  deriving DecidableEq, Repr

end Sys2Proof
end

