-- ==== Sys2Proof/WellFormed.lean ====
section
/-! DEFINITION. Which commands have an encoding: the tile and group operands fit their 28-bit field (R84, R87, R91). -/

namespace Sys2Proof

/-- `n` fits the 28-bit operand field (R91: "T and G are 28-bit integers 0 to 2^28 - 1"). -/
def fitsOperand (n : Nat) : Bool := decide (n < 2 ^ 28)

/-- A command that has a word: its index operand fits its field. The other operands' types hold their fields' widths. -/
def Instr.wellFormed : Instr → Bool
  | .inspect => true
  | .locate => true
  | .prepare => true
  | .fetch t => fitsOperand t
  | .pixel _ _ => true
  | .convert _ _ => true
  | .compose g => fitsOperand g

end Sys2Proof
end

