-- ==== Sys2Proof/Decode.lean ====
section
/-! DEFINITION. Command words: the decoder of R90, total on 32-bit words and rejecting by name, and the encoder of
R81 to R87. -/

namespace Sys2Proof

/-- Why a word is no command. Either way it is ILLEGAL and completes with ILLEGAL_COMMAND (R88, R89). -/
inductive DecodeError where
  /-- The opcode is 0x0 or 0x8 to 0xF (R88). -/
  | reservedOpcode
  /-- The opcode is defined and a must-be-0 bit is 1 (R89). -/
  | mustBeZero
  deriving DecidableEq, Repr

/-- The field of `w` from bit `lo` on, `n` bits wide (R8: `w[lo+n-1:lo]`). -/
def bits (w : Word) (lo n : Nat) : BitVec n := w.extractLsb' lo n

/-- `i` where the must-be-0 field is 0, an error by name elsewhere (R89). -/
def whenZero {n : Nat} (field : BitVec n) (i : Instr) : Except DecodeError Instr :=
  if field = 0 then .ok i else .error .mustBeZero

/-- R90's decode, a total function of the 32-bit word. -/
def decode (w : Word) : Except DecodeError Instr :=
  match (bits w 28 4).toNat with
  | 0x1 => whenZero (bits w 0 28) .inspect
  | 0x2 => whenZero (bits w 0 28) .locate
  | 0x3 => whenZero (bits w 0 28) .prepare
  | 0x4 => .ok (.fetch (bits w 0 28).toNat)
  | 0x5 => whenZero (bits w 6 22) (.pixel (bits w 0 3) (bits w 3 3))
  | 0x6 => whenZero (bits w 16 12) (.convert (bits w 0 8) (bits w 8 8))
  | 0x7 => .ok (.compose (bits w 0 28).toNat)
  | _ => .error .reservedOpcode

/-- The word of a well-formed command, field by field as R81 to R87 lay it out (`++` is R8's concatenation). -/
def encode : Instr → Word
  | .inspect => 0x1#4 ++ 0#28
  | .locate => 0x2#4 ++ 0#28
  | .prepare => 0x3#4 ++ 0#28
  | .fetch t => 0x4#4 ++ BitVec.ofNat 28 t
  | .pixel x y => 0x5#4 ++ 0#22 ++ y ++ x
  | .convert lo hi => 0x6#4 ++ 0#12 ++ hi ++ lo
  | .compose g => 0x7#4 ++ BitVec.ofNat 28 g

/-- The host's question to the decoder: the command read from the instruction whose `nbits` bits are `w`, numbered as
spec/opcode_table.json numbers them. A command is one 32-bit word with no byte order (R65, R80), so its bits are the
word's, and those above `nbits` are 0. -/
def decodeTableWord (nbits w : Nat) : Option Instr :=
  if nbits ≤ 32 then (decode (BitVec.ofNat 32 (w % 2 ^ nbits))).toOption else none

end Sys2Proof
end

