-- ==== Sys2Proof/Machine/Hazards.lean ====
section
/-! DEFINITION. R186's table: which locations each opcode reads that the host can write, and which it writes. -/

namespace Sys2Proof
namespace Machine

/-- The classes of locations a host write can reach that some command reads (R186). -/
inductive InputLoc where
  | romLen
  | chrOffset
  | chrLength
  | romByte
  deriving DecidableEq, Repr

/-- The locations commands write their results to (R186). -/
inductive ResultLoc where
  | format
  | chrOffset
  | chrLength
  | tileData
  | tileIndex
  | pix
  | conv
  | sheetByte
  | sheetGroup
  | sheetTiles
  deriving DecidableEq, Repr

end Machine

open Machine

/-- R186, "inputs the host can write". -/
def Instr.inputs : Instr → List InputLoc
  | .inspect => [.romLen, .romByte]
  | .locate => [.romLen, .romByte]
  | .prepare => [.romLen, .romByte]
  | .fetch _ => [.romLen, .chrOffset, .chrLength, .romByte]
  | .pixel _ _ => []
  | .convert _ _ => []
  | .compose _ => [.romLen, .chrOffset, .chrLength, .romByte]

/-- R186, "results written". -/
def Instr.results : Instr → List ResultLoc
  | .inspect => [.format]
  | .locate => [.chrOffset, .chrLength]
  | .prepare => [.format, .chrOffset, .chrLength]
  | .fetch _ => [.tileData, .tileIndex]
  | .pixel _ _ => [.pix]
  | .convert _ _ => [.conv]
  | .compose _ => [.sheetByte, .sheetGroup, .sheetTiles]

namespace Machine

/-- The in-flight command; none where nothing is in flight or its word is illegal (R44, R90). -/
def State.inflight (s : State) : Option Instr := s.busyWord.bind fun w => (decode w).toOption

/-- A host write to a location of class `l` is an input hazard now (R186). -/
def State.isInput (s : State) (l : InputLoc) : Bool := s.inflight.any fun i => i.inputs.contains l

/-- A host read of location `l` is a read hazard now (R187). -/
def State.isResult (s : State) (l : ResultLoc) : Bool := s.inflight.any fun i => i.results.contains l

end Machine
end Sys2Proof
end

