-- ==== Sys2Proof/Machine/Operands.lean ====
section
/-! DEFINITION. The pure functions the commands share: the header's meaning (R101, R102, R111), the pixel bit-math
(R11, R121, R124), the colour table (R140) and the raster's addresses (R63). Arithmetic is exact, on natural numbers
(R9). -/

namespace Sys2Proof.Machine

/-- HEADER_SIZE (R6). -/
def headerSize : Nat := 16

/-- TILE_BYTES (R6). -/
def tileBytes : Nat := 16

/-- TILES_PER_SHEET (R6). -/
def tilesPerSheet : Nat := 256

/-- SHEET_W and SHEET_H (R6). -/
def sheetSide : Nat := 128

/-- SHEET_BYTES (R6). -/
def sheetBytes : Nat := 49152

/-- The magic check on header bytes 0 to 3 (R101). -/
def validInes (b : Vector Byte 8) : Bool :=
  b[0] == 0x4E && b[1] == 0x45 && b[2] == 0x53 && b[3] == 0x1A

/-- NES 2.0 detection (R102). -/
def isNes20 (b : Vector Byte 8) : Bool := validInes b && b[7] &&& 0x0C == 0x08

/-- TRAINER_SIZE where byte 6 has the trainer flag, else 0 (R111). -/
def trainerSize (b6 : Byte) : Nat := if b6 &&& 0x04 = 0x04 then 512 else 0

/-- `chr_offset` of R111. -/
def locateOffset (b4 b6 : Byte) : Nat := headerSize + trainerSize b6 + b4.toNat * 16384

/-- `chr_size` of R111. -/
def locateLength (b5 : Byte) : Nat := b5.toNat * 8192

/-- The pixel function (R11): the colour index of column `x` (0 to 7, from the left) of a row with plane bytes `lo` and
`hi`. -/
def pix (lo hi : Byte) (x : Nat) : BitVec 2 :=
  let b := 7 - x
  let lowBit := (lo >>> b) &&& 1
  let highBit := (hi >>> b) &&& 1
  BitVec.ofNat 2 (lowBit.toNat + 2 * highBit.toNat)

/-- The pixel of a tile (R121): column `x`, row `y`. -/
def tpix (d : Vector Byte 16) (x y : BitVec 3) : BitVec 2 :=
  pix (d[y.toNat]'(by omega)) (d[y.toNat + 8]'(by omega)) x.toNat

/-- CONVERT's row (R124): bits [2x+1:2x] hold the colour index of pixel `x`. -/
def convertRow (lo hi : Byte) : BitVec 16 :=
  pix lo hi 7 ++ pix lo hi 6 ++ pix lo hi 5 ++ pix lo hi 4 ++ pix lo hi 3 ++ pix lo hi 2 ++ pix lo hi 1 ++ pix lo hi 0

/-- One row of the colour table: a channel value each for R, G and B. -/
structure Rgb where
  r : Byte
  g : Byte
  b : Byte
  deriving DecidableEq, Repr

/-- The entry of channel `c`: 0 is R, 1 is G, 2 is B (R63, R140). -/
def Rgb.channel (p : Rgb) : Nat → Byte
  | 0 => p.r
  | 1 => p.g
  | _ => p.b

/-- The background (R142). -/
def black : Rgb := { r := 0x00, g := 0x00, b := 0x00 }

/-- PALETTE (R140), indexed by colour index. -/
def palette (i : BitVec 2) : Rgb :=
  match i.toNat with
  | 0 => { r := 0x00, g := 0x00, b := 0x00 }
  | 1 => { r := 0x80, g := 0x80, b := 0x80 }
  | 2 => { r := 0xA9, g := 0xA9, b := 0xA9 }
  | _ => { r := 0xFF, g := 0xFF, b := 0xFF }

/-- A(X, Y, c), the SHEET byte address of pixel (X, Y), channel c (R63). -/
def sheetAddr (x y c : Nat) : Nat := 3 * (sheetSide * y + x) + c

end Sys2Proof.Machine
end

