-- ==== Sys2Proof/Machine/Ops.lean ====
section
/-! DEFINITION. The named operations on memories and registers, the one way a command completes (R165), and the reset
(R180 to R183). The block takes no exception (R160): what other hardware does by an exception entry, an error code at
completion does here, and `State.conclude` is that shared operation. -/

namespace Sys2Proof.Machine

/-! Memories. -/

/-- The known value of address `a`, if a write has given it one. -/
def lookupCell : List Host.Cell → Nat → Option Byte
  | [], _ => none
  | (b, w) :: m, a => if b = a then some w else lookupCell m a

/-- `cells` with address `a` holding `v`, in canonical form if `cells` are. -/
def writeCell : List Host.Cell → Nat → Byte → List Host.Cell
  | [], a, v => [(a, v)]
  | (b, w) :: m, a, v =>
    if a < b then (a, v) :: (b, w) :: m
    else if a = b then (a, v) :: m
    else (b, w) :: writeCell m a v

/-- A 1-byte write (R10). -/
def Memory.write (m : Memory) (a : Nat) (v : Byte) : Memory := { m with cells := writeCell m.cells a v }

/-- Every byte of a buffer is any value, by draw `d` (R183, R186). -/
def Memory.unknown (d : Nat) : Memory := { cells := [], draw := d }

/-- ROM byte `a`, MemRead(a, 1) of R10: its written value, else the free value of its draw (R41, R183). -/
def State.romByte (s : State) (a : Nat) : Byte := (lookupCell s.rom.cells a).getD (Config.anyRomByte s.rom.draw a)

/-- SHEET byte `a`: its written value, else the free value of its draw (R42, R183). -/
def State.sheetByte (s : State) (a : Nat) : Byte :=
  (lookupCell s.sheet.cells a).getD (Config.anySheetByte s.sheet.draw a)

/-! What the checks and the derived registers read. -/

/-- TILE_COUNT (R31). -/
def State.tileCount (s : State) : Nat := s.chrLength.toNat >>> 4

/-- GROUP_COUNT (R32). -/
def State.groupCount (s : State) : Nat := (s.tileCount + 255) >>> 8

/-- ROM_LEN < 16, the precondition of INSPECT, LOCATE and PREPARE (R162). -/
def State.tooShort (s : State) : Bool := decide (s.romLen.toNat < headerSize)

/-- The region [offset, offset + length) ends past ROM_LEN, the sum taken exactly (R9, R162). -/
def State.endsPastRom (s : State) (offset length : Nat) : Bool := decide (s.romLen.toNat < offset + length)

/-- CHR_OFFSET + CHR_LENGTH > ROM_LEN, the region check of FETCH and COMPOSE (R162). -/
def State.regionPastRom (s : State) : Bool := s.endsPastRom s.chrOffset.toNat s.chrLength.toNat

/-- Header bytes 0 to 7 (R60). -/
def State.header (s : State) : Vector Byte 8 := Vector.ofFn fun k => s.romByte k.val

/-- The ROM address of byte `j` of tile `t` (R62). -/
def State.tileAddr (s : State) (t j : Nat) : Nat := s.chrOffset.toNat + tileBytes * t + j

/-- The 16 bytes of tile `t` of the region (R120). -/
def State.romTile (s : State) (t : Nat) : Vector Byte 16 := Vector.ofFn fun j => s.romByte (s.tileAddr t j.val)

/-! Writing results. -/

/-- FORMAT <- v. -/
def State.setFormat (s : State) (v : BitVec 2) : State := { s with format := v }

/-- CHR_OFFSET <- offset, CHR_LENGTH <- length. -/
def State.setRegion (s : State) (offset length : Word) : State := { s with chrOffset := offset, chrLength := length }

/-- The tile buffer <- d, TILE_INDEX <- t. -/
def State.setTile (s : State) (d : Vector Byte 16) (t : BitVec 28) : State := { s with tile := d, tileIndex := t }

/-- PIX <- v. -/
def State.setPix (s : State) (v : BitVec 2) : State := { s with pix := v }

/-- CONV <- v. -/
def State.setConv (s : State) (v : BitVec 16) : State := { s with conv := v }

/-- The SHEET buffer <- m, SHEET_GROUP <- g, SHEET_TILES <- n. -/
def State.setSheet (s : State) (m : Memory) (g : BitVec 28) (n : BitVec 9) : State :=
  { s with sheet := m, sheetGroup := g, sheetTiles := n }

/-- One draw of free values has been made (log entries 3, 4 and 5). -/
def State.drawn (s : State) : State := { s with draws := s.draws + 1 }

/-! The command life cycle. -/

/-- Acceptance of `w` (R164). The number of host steps that come before its completion is drawn here (R5, log
entry 2). -/
def State.accept (s : State) (w : Word) : State :=
  { s with
    busyWord := some w
    err := 0
    tainted := false
    engineWait := Config.hostStepsFirst s.draws
    draws := s.draws + 1 }

/-- An ignored CMD write (R166): IRQ_STATUS.OVR <- 1, nothing else. -/
def State.overrun (s : State) : State := { s with irqStatus := s.irqStatus ||| irqOvr }

/-- The end of every command (R165): STATUS.ERR <- code, the IRQ_STATUS bits set, the latch cleared. -/
def State.conclude (s : State) (code : BitVec 4) : State :=
  { s with
    busyWord := none
    err := code
    irqStatus := s.irqStatus ||| completionBits code }

/-- A host write of a location of class `l` (R186): `tainted` is set if it is an input of the in-flight command. -/
def State.touch (s : State) (l : InputLoc) : State := { s with tainted := s.tainted || s.isInput l }

/-- One of the host steps that come before the in-flight command's completion has been taken (log entry 2). -/
def State.tick (s : State) : State := { s with engineWait := s.engineWait - 1 }

/-- A reset (R180 to R183): every register at its reset value, the command in flight abandoned, both buffers any value.
The host and the numbering of draws are no part of the block (log entry 18). -/
def State.resetBlock (s : State) : State :=
  { State.reset with
    rom := Memory.unknown s.draws
    sheet := Memory.unknown s.draws
    draws := s.draws + 1
    host := s.host }

/-- What a machine's step or a command's meaning answers. -/
abbrev Answer := Host.Outcome State Fault Refusal

/-- The completion of a command (R165) as one step. `rule` is the command's own rule: the state with its results
written, and its error code. `anyResults` writes any value to every location of the opcode's results column (R186).
A tainted command does the second, and takes any error code. -/
def runCommand (rule : State → State × ErrCode) (anyResults : State → State) (s : State) : Answer :=
  if s.tainted then .next ((anyResults s).drawn.conclude (Config.anyErr s.draws))
  else
    let result := rule s
    .next (result.1.conclude result.2.code)

/-- The completion of an illegal word (R88, R89): ILLEGAL_COMMAND and no result. -/
def completeIllegal (s : State) : Answer := runCommand (fun t => (t, .illegalCommand)) (fun t => t) s

end Sys2Proof.Machine
end

