-- ==== Sys2Proof/Machine/ExportOrchestrator.lean ====
section
/-! DEFINITION. The Export Orchestrator's checks (45_export_orchestrator): PREPARE. -/

namespace Sys2Proof.Machine

/-- PREPARE's RegionCheck and its writes, on the state whose FORMAT is already written (R150). -/
def prepareRegion (s : State) : State × ErrCode :=
  let offset := locateOffset (s.romByte 4) (s.romByte 6)
  let length := locateLength (s.romByte 5)
  if s.endsPastRom offset length then (s, .tooSmall)
  else (s.setRegion (BitVec.ofNat 32 offset) (BitVec.ofNat 32 length), .none)

/-- PREPARE's rule (R150): SizeCheck, FormatCheck, RegionCheck. FORMAT is written once the SizeCheck has passed and kept
on a later error (R151). -/
def prepareRule (s : State) : State × ErrCode :=
  if s.tooShort then (s, .tooSmall)
  else
    let t := s.setFormat (formatBits (validInes s.header) (isNes20 s.header))
    if validInes s.header then prepareRegion t else (t, .unsupportedFormat)

/-- PREPARE's results, any value (R186). -/
def prepareAny (s : State) : State :=
  (s.setFormat (Config.anyFormat s.draws)).setRegion (Config.anyChrOffset s.draws) (Config.anyChrLength s.draws)

/-- PREPARE (R150). -/
def execPrepare (s : State) : Answer := runCommand prepareRule prepareAny s

end Sys2Proof.Machine
end

