-- ==== Sys2Proof/Machine/HeaderInspector.lean ====
section
/-! DEFINITION. The Header Inspector (41_header_inspector): INSPECT. -/

namespace Sys2Proof.Machine

/-- FORMAT as `inspect` computes it from header bytes 0 to 7 (R101, R102). -/
def inspectHeader (b : Vector Byte 8) : BitVec 2 := formatBits (validInes b) (isNes20 b)

/-- INSPECT's rule (R100). -/
def inspectRule (s : State) : State × ErrCode :=
  if s.tooShort then (s, .tooSmall)
  else (s.setFormat (inspectHeader s.header), .none)

/-- INSPECT's results, any value (R186). -/
def inspectAny (s : State) : State := s.setFormat (Config.anyFormat s.draws)

/-- INSPECT (R100). -/
def execInspect (s : State) : Answer := runCommand inspectRule inspectAny s

end Sys2Proof.Machine
end

