-- ==== Sys2Proof/Machine/RegionLocator.lean ====
section
/-! DEFINITION. The Region Locator (42_region_locator): LOCATE. -/

namespace Sys2Proof.Machine

/-- LOCATE's rule (R110): neither the magic nor the image's end is checked (R114, R115). -/
def locateRule (s : State) : State × ErrCode :=
  if s.tooShort then (s, .tooSmall)
  else
    let offset := locateOffset (s.romByte 4) (s.romByte 6)
    let length := locateLength (s.romByte 5)
    (s.setRegion (BitVec.ofNat 32 offset) (BitVec.ofNat 32 length), .none)

/-- LOCATE's results, any value (R186). -/
def locateAny (s : State) : State := s.setRegion (Config.anyChrOffset s.draws) (Config.anyChrLength s.draws)

/-- LOCATE (R110). -/
def execLocate (s : State) : Answer := runCommand locateRule locateAny s

end Sys2Proof.Machine
end

