-- ==== Sys2Proof/Machine/SpritesheetComposer.lean ====
section
/-! DEFINITION. The Spritesheet Composer (44_spritesheet_composer): COMPOSE. All of its SHEET writes become visible
together (R67, R143), so the whole raster is built at once, row by row (log entry 14). -/

namespace Sys2Proof.Machine

/-- The three SHEET cells of pixel (X, Y) in colour `p` (R63). -/
def pixelCells (x y : Nat) (p : Rgb) : List Host.Cell :=
  [(sheetAddr x y 0, p.channel 0), (sheetAddr x y 1, p.channel 1), (sheetAddr x y 2, p.channel 2)]

/-- The eight pixels of raster row `y` in grid column `col`, coloured by `colour` from the pixel's column in its tile. -/
def tileRowCells (col y : Nat) (colour : Nat → Rgb) : List Host.Cell :=
  (List.range 8).flatMap fun x => pixelCells (8 * col + x) y (colour x)

/-- Raster row `y` of grid column `col` for the `n` tiles from tile `first` on (R142): a row of the tile at position
`16 * (y div 8) + col`, or black where no tile is placed. -/
def composeSpan (s : State) (first n y col : Nat) : List Host.Cell :=
  let i := 16 * (y / 8) + col
  if i < n then
    let lo := s.romByte (s.tileAddr (first + i) (y % 8))
    let hi := s.romByte (s.tileAddr (first + i) (y % 8 + 8))
    tileRowCells col y fun x => palette (pix lo hi x)
  else tileRowCells col y fun _ => black

/-- All SHEET cells, in address order. -/
def composeCells (s : State) (first n : Nat) : List Host.Cell :=
  (List.range sheetSide).flatMap fun y => (List.range 16).flatMap fun col => composeSpan s first n y col

/-- The number of tiles in group `g` (R141, R143). -/
def State.groupTiles (s : State) (g : Nat) : Nat := min tilesPerSheet (s.tileCount - tilesPerSheet * g)

/-- COMPOSE's rule (R143): the region check, then the group check, then the raster. -/
def composeRule (g : Nat) (s : State) : State × ErrCode :=
  if s.regionPastRom then (s, .tooSmall)
  else if s.groupCount ≤ g then (s, .groupRange)
  else
    let n := s.groupTiles g
    let raster := { cells := composeCells s (tilesPerSheet * g) n, draw := 0 }
    (s.setSheet raster (BitVec.ofNat 28 g) (BitVec.ofNat 9 n), .none)

/-- COMPOSE's results, any value (R186). -/
def composeAny (s : State) : State :=
  s.setSheet (Memory.unknown s.draws) (Config.anySheetGroup s.draws) (Config.anySheetTiles s.draws)

/-- COMPOSE G (R143). -/
def execCompose (g : Nat) (s : State) : Answer := runCommand (composeRule g) composeAny s

end Sys2Proof.Machine
end

