-- ==== Sys2Proof/Machine/TileDecoder.lean ====
section
/-! DEFINITION. The Tile Decoder and the planar-to-indexed converter (43_tile_decoder): FETCH, PIXEL, CONVERT. -/

namespace Sys2Proof.Machine

/-- FETCH's rule (R122): the region check, then the index check, then the tile's bytes verbatim. -/
def fetchRule (t : Nat) (s : State) : State × ErrCode :=
  if s.regionPastRom then (s, .tooSmall)
  else if s.tileCount ≤ t then (s, .tileRange)
  else (s.setTile (s.romTile t) (BitVec.ofNat 28 t), .none)

/-- FETCH's results, any value (R186). -/
def fetchAny (s : State) : State :=
  s.setTile (Vector.ofFn fun j => Config.anyTileByte s.draws j.val) (Config.anyTileIndex s.draws)

/-- FETCH T (R122). -/
def execFetch (t : Nat) (s : State) : Answer := runCommand (fetchRule t) fetchAny s

/-- PIXEL's rule (R123): no check but the word's own. -/
def pixelRule (x y : BitVec 3) (s : State) : State × ErrCode := (s.setPix (tpix s.tile x y), .none)

/-- PIXEL's result, any value (R186). -/
def pixelAny (s : State) : State := s.setPix (Config.anyPix s.draws)

/-- PIXEL X, Y (R123). -/
def execPixel (x y : BitVec 3) (s : State) : Answer := runCommand (pixelRule x y) pixelAny s

/-- CONVERT's rule (R124): no check but the word's own. -/
def convertRule (lo hi : Byte) (s : State) : State × ErrCode := (s.setConv (convertRow lo hi), .none)

/-- CONVERT's result, any value (R186). -/
def convertAny (s : State) : State := s.setConv (Config.anyConv s.draws)

/-- CONVERT LO, HI (R124). -/
def execConvert (lo hi : Byte) (s : State) : Answer := runCommand (convertRule lo hi) convertAny s

end Sys2Proof.Machine
end

