-- ==== Sys2Proof/Machine/Dispatch.lean ====
section
/-! DEFINITION. The one dispatch from a command to its meaning. -/

namespace Sys2Proof.Machine

def exec (i : Instr) (s : State) : Host.Outcome State Fault Refusal :=
  match i with
  | .inspect => Sys2Proof.Machine.execInspect s
  | .locate => Sys2Proof.Machine.execLocate s
  | .prepare => Sys2Proof.Machine.execPrepare s
  | .fetch t => Sys2Proof.Machine.execFetch t s
  | .pixel x y => Sys2Proof.Machine.execPixel x y s
  | .convert lo hi => Sys2Proof.Machine.execConvert lo hi s
  | .compose g => Sys2Proof.Machine.execCompose g s

end Sys2Proof.Machine
end

