-- ==== Sys2Proof/Machine/HostBus.lean ====
section
/-! DEFINITION. The host's bus accesses: the bus map and the access rules (R66, R68, R69, R178), the register map (R22
to R39), and what a read or a write of each location does, hazards included (R186, R187). -/

namespace Sys2Proof.Machine

/-- The registers of R22 that have a name. -/
inductive Reg where
  | cmd
  | status
  | irqStatus
  | irqEnable
  | romLen
  | format
  | chrOffset
  | chrLength
  | tileCount
  | groupCount
  | tileIndex
  | tileData (k : Fin 4)
  | pix
  | conv
  | sheetGroup
  | sheetTiles
  deriving DecidableEq, Repr

/-- The register map's offsets (R22). -/
def Reg.offset : Reg → Nat
  | .cmd => 0x00
  | .status => 0x04
  | .irqStatus => 0x08
  | .irqEnable => 0x0C
  | .romLen => 0x10
  | .format => 0x14
  | .chrOffset => 0x18
  | .chrLength => 0x1C
  | .tileCount => 0x20
  | .groupCount => 0x24
  | .tileIndex => 0x28
  | .tileData k => 0x2C + 4 * k.val
  | .pix => 0x3C
  | .conv => 0x40
  | .sheetGroup => 0x44
  | .sheetTiles => 0x48

/-- The register at an offset of the register window; none where the offset is reserved (R22, R39). -/
def Reg.ofOffset : Nat → Option Reg
  | 0x00 => some .cmd
  | 0x04 => some .status
  | 0x08 => some .irqStatus
  | 0x0C => some .irqEnable
  | 0x10 => some .romLen
  | 0x14 => some .format
  | 0x18 => some .chrOffset
  | 0x1C => some .chrLength
  | 0x20 => some .tileCount
  | 0x24 => some .groupCount
  | 0x28 => some .tileIndex
  | 0x2C => some (.tileData 0)
  | 0x30 => some (.tileData 1)
  | 0x34 => some (.tileData 2)
  | 0x38 => some (.tileData 3)
  | 0x3C => some .pix
  | 0x40 => some .conv
  | 0x44 => some .sheetGroup
  | 0x48 => some .sheetTiles
  | _ => none

/-- What a host access reaches (R68). -/
inductive Target where
  /-- A named register. -/
  | register (r : Reg)
  /-- A reserved offset of the register window (R39). -/
  | reserved
  /-- SHEET byte `a`. -/
  | sheetByte (a : Nat)
  /-- ROM byte `a`. -/
  | romByte (a : Nat)
  deriving DecidableEq, Repr

/-- The SHEET window's base (R68). -/
def sheetBase : Nat := 0x00010000

/-- The ROM window's base (R68). -/
def romBase : Nat := 0x01000000

/-- The target of a `width`-bit access at bus address `addr`; none where the access has no meaning (R66, R68, R69). -/
def busTarget (width addr : Nat) : Option Target :=
  if addr < 0x100 then
    if width = 32 ∧ addr % 4 = 0 then some ((Reg.ofOffset addr).elim .reserved .register) else none
  else if sheetBase ≤ addr ∧ addr < sheetBase + sheetBytes then
    if width = 8 then some (.sheetByte (addr - sheetBase)) else none
  else if romBase ≤ addr ∧ Config.withinRomCap (addr - romBase + 1) then
    if width = 8 then some (.romByte (addr - romBase)) else none
  else none

/-- TILE_DATA`k`: tile byte `4k + j` is bits [8j+7:8j] (R34). -/
def State.tileData (s : State) (k : Fin 4) : Word :=
  s.tile[4 * k.val + 3] ++ s.tile[4 * k.val + 2] ++ s.tile[4 * k.val + 1] ++ s.tile[4 * k.val]

/-- A register's value as the host reads it, hazards apart: the fields where R22 puts them, 0 elsewhere. -/
def State.readReg (s : State) : Reg → Word
  | .cmd => 0
  | .status => 0#20 ++ s.err ++ 0#7 ++ BitVec.ofBool s.busy
  | .irqStatus => 0#29 ++ s.irqStatus
  | .irqEnable => 0#29 ++ s.irqEnable
  | .romLen => s.romLen
  | .format => 0#30 ++ s.format
  | .chrOffset => s.chrOffset
  | .chrLength => s.chrLength
  | .tileCount => BitVec.ofNat 32 s.tileCount
  | .groupCount => BitVec.ofNat 32 s.groupCount
  | .tileIndex => 0#4 ++ s.tileIndex
  | .tileData k => s.tileData k
  | .pix => 0#30 ++ s.pix
  | .conv => 0#16 ++ s.conv
  | .sheetGroup => 0#4 ++ s.sheetGroup
  | .sheetTiles => 0#23 ++ s.sheetTiles

/-- The value of a target as the host reads it, hazards apart. -/
def State.readTarget (s : State) : Target → Word
  | .register r => s.readReg r
  | .reserved => 0
  | .sheetByte a => 0#24 ++ s.sheetByte a
  | .romByte a => 0#24 ++ s.romByte a

/-- The result location of R186 that a target is, if it is one. TILE_COUNT and GROUP_COUNT are derived and in no
opcode's results column (log entry 5). -/
def Target.resultLoc : Target → Option ResultLoc
  | .register .format => some .format
  | .register .chrOffset => some .chrOffset
  | .register .chrLength => some .chrLength
  | .register (.tileData _) => some .tileData
  | .register .tileIndex => some .tileIndex
  | .register .pix => some .pix
  | .register .conv => some .conv
  | .register .sheetGroup => some .sheetGroup
  | .register .sheetTiles => some .sheetTiles
  | .sheetByte _ => some .sheetByte
  | _ => none

/-- What a read of the target returns under a read hazard (R187): any value of the access's width (log entry 5). -/
def Target.anyRead (d : Nat) : Target → Word
  | .sheetByte _ => 0#24 ++ Config.anyReadByte d
  | .romByte _ => 0#24 ++ Config.anyReadByte d
  | .register _ => Config.anyReadWord d
  | .reserved => Config.anyReadWord d

/-- The target is a result location of the command in flight (R187). -/
def State.hazardRead (s : State) (t : Target) : Bool := t.resultLoc.any s.isResult

/-- The host's variable for the last value read. -/
def State.setData (s : State) (v : Word) : State := { s with host := { s.host with data := v } }

/-- A host read of a target (R67, R187). -/
def State.hostRead (s : State) (t : Target) : State :=
  if s.hazardRead t then s.drawn.setData (t.anyRead s.draws) else s.setData (s.readTarget t)

/-- The value ROM_LEN stores for a write of `v`: min(v, ROM_CAP) (R27). -/
def clampLen (v : Word) : Word := if Config.withinRomCap v.toNat then v else BitVec.ofNat 32 Config.romCap

/-- A host write to CMD (R23): a command accepted (R164), or an overrun (R166). -/
def State.submit (s : State) (w : Word) : State := if s.busy then s.overrun else s.accept w

/-- A host write to IRQ_STATUS (R25): each 1 clears its bit. -/
def State.ackIrq (s : State) (v : Word) : State := { s with irqStatus := s.irqStatus &&& ~~~(v.setWidth 3) }

/-- A host write to IRQ_ENABLE (R26). -/
def State.setIrqEnable (s : State) (v : Word) : State := { s with irqEnable := v.setWidth 3 }

/-- A host write to ROM_LEN (R27), its input hazard apart. -/
def State.setRomLen (s : State) (v : Word) : State := { s with romLen := clampLen v }

/-- A host write to CHR_OFFSET (R29), its input hazard apart. -/
def State.setChrOffset (s : State) (v : Word) : State := { s with chrOffset := v }

/-- A host write to CHR_LENGTH (R30), its input hazard apart. -/
def State.setChrLength (s : State) (v : Word) : State := { s with chrLength := v }

/-- A host write of ROM byte `a` (R41, R68), its input hazard apart. -/
def State.setRomByte (s : State) (a : Nat) (v : Byte) : State := { s with rom := s.rom.write a v }

/-- A host write to a register (R22 to R39); a read-only register ignores it. -/
def State.writeReg (s : State) (r : Reg) (v : Word) : State :=
  match r with
  | .cmd => s.submit v
  | .irqStatus => s.ackIrq v
  | .irqEnable => s.setIrqEnable v
  | .romLen => (s.touch .romLen).setRomLen v
  | .chrOffset => (s.touch .chrOffset).setChrOffset v
  | .chrLength => (s.touch .chrLength).setChrLength v
  | .status => s
  | .format => s
  | .tileCount => s
  | .groupCount => s
  | .tileIndex => s
  | .tileData _ => s
  | .pix => s
  | .conv => s
  | .sheetGroup => s
  | .sheetTiles => s

/-- A host write of a target; a reserved offset and the SHEET window ignore it (R39, R66). -/
def State.hostWrite (s : State) (t : Target) (v : Word) : State :=
  match t with
  | .register r => s.writeReg r v
  | .reserved => s
  | .sheetByte _ => s
  | .romByte a => (s.touch .romByte).setRomByte a (v.setWidth 8)

/-- A host bus read as one step: refused where it has no meaning (R67, R178). -/
def busRead (width addr : Nat) (s : State) : Answer :=
  match busTarget width addr with
  | some t => .next (s.hostRead t)
  | none => .refused .hostBusError

/-- A host bus write as one step: refused where it has no meaning (R67, R178). -/
def busWrite (width addr : Nat) (v : Word) (s : State) : Answer :=
  match busTarget width addr with
  | some t => .next (s.hostWrite t v)
  | none => .refused .hostBusError

end Sys2Proof.Machine
end

