-- ==== Sys2Proof/Machine/HostProgram.lean ====
section
/-! DEFINITION. The HOST agent's actions as steps: bus accesses, RESET, the waits of R94 and the EXPORT sequence of R95
and R154. Log entries 6, 10, 11, 17 and 18. -/

namespace Sys2Proof.Machine

/-- `WR <reg>, <value>` (R93). -/
def HostOp.wr (r : Reg) (v : Word) : HostOp := .write 32 r.offset v

/-- `RD <reg>` (R93). -/
def HostOp.rd (r : Reg) : HostOp := .read 32 r.offset

/-- `WRB ROM[a], v` (R93). -/
def HostOp.wrb (a : Nat) (v : Byte) : HostOp := .write 8 (romBase + a) (0#24 ++ v)

/-- `RDB ROM[a]` (R93). -/
def HostOp.rdbRom (a : Nat) : HostOp := .read 8 (romBase + a)

/-- `RDB SHEET[a]` (R93). -/
def HostOp.rdbSheet (a : Nat) : HostOp := .read 8 (sheetBase + a)

/-- A command line: `WR CMD, <word>` (R93). -/
def HostOp.command (i : Instr) : HostOp := .wr .cmd (encode i)

/-- The host's remaining program. -/
def State.setProgram (s : State) (p : List HostOp) : State := { s with host := { s.host with program := p } }

/-- `ops`, then what remains of the host's program. -/
def State.pushOps (s : State) (ops : List HostOp) : State := s.setProgram (ops ++ s.host.program)

/-- WAIT's `e <- s[11:8]` (R94). -/
def State.setE (s : State) (v : BitVec 4) : State := { s with host := { s.host with e := v } }

/-- What EXPORT shows (R154). -/
def State.emit (s : State) (x : HostEvent) : State :=
  { s with host := { s.host with emitted := s.host.emitted ++ [x] } }

/-- One poll of WAIT (R94): `s <- RD STATUS`; again while `s[0]` is 1, else `e <- s[11:8]`. -/
def hostWait (s : State) : State :=
  let status := s.readReg .status
  let polled := s.hostRead (.register .status)
  if status.getLsbD 0 then polled.pushOps [.wait] else polled.setE (status.extractLsb' 8 4)

/-- One look at `irq` (R94, R168): again while it is 0, else the acknowledge of IRQ_STATUS.DONE (R169). -/
def hostWaitIrq (s : State) : State :=
  if s.irq then s.pushOps [.wr .irqStatus 1] else s.pushOps [.waitIrq]

/-- `WRB ROM[a], bytes[a]` for each of the bytes, from address `a` on (R95). -/
def loadOps : Nat → List Byte → List HostOp
  | _, [] => []
  | a, b :: rest => .wrb a b :: loadOps (a + 1) rest

/-- The value EXPORT writes to ROM_LEN: the file's length (R95), at most what a 32-bit write carries (log entry 11). -/
def lengthWord (bytes : List Byte) : Word := BitVec.ofNat 32 (min bytes.length (2 ^ 32 - 1))

/-- EXPORT's start: load, ROM_LEN, PREPARE, WAIT, then the verdict (R95). -/
def exportOps (path : String) (bytes : List Byte) : List HostOp :=
  loadOps 0 (bytes.take Config.romCap) ++
    [.wr .romLen (lengthWord bytes), .command .prepare, .wait, .exportVerdict path]

/-- The diagnostic line of an error code (R95, R161). -/
def diagnosticLine (path : String) (e : BitVec 4) : String :=
  if e = 1 then path ++ ": Too small" else path ++ ": Unsupported file format. Expected iNES or NES 2.0 ROM"

/-- EXPORT after PREPARE's WAIT (R95): a report for e = 1 or 2, else `n <- RD GROUP_COUNT` and the loop over groups. -/
def exportVerdict (path : String) (s : State) : State :=
  if s.host.e = 1 ∨ s.host.e = 2 then s.emit (.diagnostic (diagnosticLine path s.host.e))
  else
    (s.hostRead (.register .groupCount)).pushOps [.exportGroup path 0 (s.readReg .groupCount).toNat]

/-- EXPORT's group loop at `g` of `n` (R95). -/
def exportGroup (path : String) (g n : Nat) (s : State) : State :=
  if g < n then s.pushOps [.command (.compose g), .wait, .exportEmit path g, .exportGroup path (g + 1) n] else s

/-- The file name of group `g` (R154). -/
def rasterName (path : String) (g : Nat) : String := path ++ "-" ++ toString g ++ ".png"

/-- SHEET bytes 0 to 49151 (R95). -/
def State.sheetContents (s : State) : List Byte := (List.range sheetBytes).map s.sheetByte

/-- EXPORT's hand-over of the raster of group `g` (R95); any values while a COMPOSE is in flight (R187). -/
def exportEmit (path : String) (g : Nat) (s : State) : State :=
  if s.isResult .sheetByte then
    s.drawn.emit (.raster (rasterName path g) ((List.range sheetBytes).map (Config.anySheetByte s.draws)))
  else s.emit (.raster (rasterName path g) s.sheetContents)

/-- One host action. -/
def runHostOp (op : HostOp) (s : State) : Answer :=
  match op with
  | .write width addr v => busWrite width addr v s
  | .read width addr => busRead width addr s
  | .reset => .next s.resetBlock
  | .wait => .next (hostWait s)
  | .waitIrq => .next (hostWaitIrq s)
  | .exportImage path bytes => .next (s.pushOps (exportOps path bytes))
  | .exportVerdict path => .next (exportVerdict path s)
  | .exportGroup path g n => .next (exportGroup path g n s)
  | .exportEmit path g => .next (exportEmit path g s)

/-- The HOST agent's step: its next action; nothing where it has none (R176). -/
def hostStep (s : State) : Answer :=
  match s.host.program with
  | [] => .next s
  | op :: rest => runHostOp op (s.setProgram rest)

end Sys2Proof.Machine
end

