-- ==== Sys2Proof/Machine/Step.lean ====
section
/-! DEFINITION. The step: the ENGINE's completion of the in-flight command, or one step of the HOST (R71, R163, R165). -/

namespace Sys2Proof.Machine

/-- The ENGINE's one step (R165): decode the latched word and complete that command. -/
def engineStep (w : Word) (s : State) : Host.Outcome State Fault Refusal :=
  match decode w with
  | .ok i => exec i s
  | .error _ => completeIllegal s

/-- One step. While a command is in flight, the number of host steps drawn at its acceptance come first, then its
completion (R5, R165, log entry 2); else the host steps. -/
def step (s : State) : Host.Outcome State Fault Refusal :=
  match s.busyWord with
  | some w => if s.engineWait = 0 then engineStep w s else hostStep s.tick
  | none => hostStep s

/-- `s` with the command word `w` accepted and its completion next (log entry 9): the latch, and what an acceptance
clears (R164). -/
def State.withFetchWord (s : State) (nbits w : Nat) : State :=
  { s with
    busyWord := some (BitVec.ofNat 32 (w % 2 ^ nbits))
    err := 0
    tainted := false
    engineWait := 0 }

end Sys2Proof.Machine
end

