-- ==== Sys2Proof/Safety.lean ====
section
/-! DEFINITION. The terms claims use: the invariant of every reachable state, the block as the host's reads leave it,
COMPOSE's loop as R143 writes it, and the output R154 gives an export. -/

namespace Sys2Proof.Machine

/-- What holds in every state a run from reset reaches: both buffers in canonical form and inside their sizes (R41,
R42), ROM_LEN at most ROM_CAP (R27), STATUS.ERR 0 while a command is in flight (R24), a tainted command in flight has inputs
the host can write (R45, R186), and the buffers' draws come before the next one, so that the next draw is a new one (log
entries 3 and 8). -/
structure State.Inv (s : State) : Prop where
  romWf : s.rom.wf
  sheetWf : s.sheet.wf
  romBound : ∀ c ∈ s.rom.cells, c.1 < Config.romCap
  sheetBound : ∀ c ∈ s.sheet.cells, c.1 < sheetBytes
  romLen : s.romLen.toNat ≤ Config.romCap
  busyErr : s.busy = true → s.err = 0
  romDraw : s.rom.draw < s.draws
  sheetDraw : s.sheet.draw < s.draws
  taintedInput : s.busy = true → s.tainted = true → ∃ i, s.inflight = some i ∧ i.inputs ≠ []

/-- NES20 = 1 implies VALID_INES = 1 (R28). -/
def State.FormatOk (s : State) : Prop := s.format.getLsbD 1 = true → s.format.getLsbD 0 = true

/-- The completion of the word `w` in `s` is an illegal word's (R88): ILLEGAL_COMMAND, and no other effect. -/
def CompletesIllegal (s : State) (w : Word) : Prop :=
  engineStep w s = .next { s with busyWord := none, err := 3, irqStatus := s.irqStatus ||| 3 }

/-- `s` and `t` agree on the block's own state (R46); the model's own fields may differ. -/
structure SameBlock (s t : State) : Prop where
  busyWord : t.busyWord = s.busyWord
  tainted : t.tainted = s.tainted
  err : t.err = s.err
  irqStatus : t.irqStatus = s.irqStatus
  irqEnable : t.irqEnable = s.irqEnable
  romLen : t.romLen = s.romLen
  format : t.format = s.format
  chrOffset : t.chrOffset = s.chrOffset
  chrLength : t.chrLength = s.chrLength
  tileIndex : t.tileIndex = s.tileIndex
  tile : t.tile = s.tile
  pix : t.pix = s.pix
  conv : t.conv = s.conv
  sheetGroup : t.sheetGroup = s.sheetGroup
  sheetTiles : t.sheetTiles = s.sheetTiles
  rom : t.rom = s.rom
  sheet : t.sheet = s.sheet

/-- COMPOSE's loop as R143 writes it, on the SHEET memory `m`: the black fill of every byte, then each placed tile's
rows, columns and channels, one MemWrite at a time. -/
def composeLoop (s : State) (first n : Nat) (m : Memory) : Memory :=
  let filled := (List.range sheetBytes).foldl (fun m a => m.write a 0) m
  (List.range n).foldl (fun m i =>
    (List.range 8).foldl (fun m y =>
      (List.range 8).foldl (fun m x =>
        (List.range 3).foldl (fun m c =>
          let lo := s.romByte (s.tileAddr (first + i) y)
          let hi := s.romByte (s.tileAddr (first + i) (y + 8))
          m.write (sheetAddr (8 * (i % 16) + x) (8 * (i / 16) + y) c) ((palette (pix lo hi x)).channel c))
        m) m) m) filled

/-- File byte `a`, of a file's bytes (R41). -/
def fileByte (bytes : List Byte) (a : Nat) : Byte := bytes.getD a 0

/-- The raster R144 gives group `g` of the CHR region at `offset` with `tiles` tiles, of a file: SHEET byte `k` is
channel `k mod 3` of pixel (`(k div 3) mod 128`, `k div 384`). -/
def fileRaster (bytes : List Byte) (offset tiles g : Nat) : List Byte :=
  (List.range sheetBytes).map fun k =>
    let x := k / 3 % 128
    let y := k / 384
    let i := 16 * (y / 8) + x / 8
    let base := offset + 16 * (256 * g + i)
    if i < min 256 (tiles - 256 * g) then
      (palette (pix (fileByte bytes (base + y % 8)) (fileByte bytes (base + y % 8 + 8)) (x % 8))).channel (k % 3)
    else 0

/-- What the export of one file shows (R153 to R155): a diagnostic, or one raster per group, in order. -/
def exportOutput (path : String) (bytes : List Byte) : List HostEvent :=
  let tooSmall := [HostEvent.diagnostic (path ++ ": Too small")]
  let offset := locateOffset (fileByte bytes 4) (fileByte bytes 6)
  let length := locateLength (fileByte bytes 5)
  if bytes.length < 16 then tooSmall
  else if fileByte bytes 0 ≠ 0x4E ∨ fileByte bytes 1 ≠ 0x45 ∨ fileByte bytes 2 ≠ 0x53 ∨ fileByte bytes 3 ≠ 0x1A then
    [HostEvent.diagnostic (path ++ ": Unsupported file format. Expected iNES or NES 2.0 ROM")]
  else if bytes.length < offset + length then tooSmall
  else
    (List.range ((length / 16 + 255) / 256)).map fun g =>
      HostEvent.raster (path ++ "-" ++ toString g ++ ".png") (fileRaster bytes offset (length / 16) g)

end Sys2Proof.Machine
end

