-- ==== Sys2Proof/Certificates/Slice0/Obligations.lean ====
section
/-! DEFINITION. The statements for the provers, in the order of OBLIGATIONS.json. Each docstring names the rules of
spec/ its statement rests on. A free value (Config) that a statement names stands for every value. -/

open Sys2Proof Sys2Proof.Machine

/-! Command words. -/

/-- Every well-formed command's word decodes to it (R81 to R87, R93). -/
def Obligations.DecodeOfEncode : Prop := ∀ i : Instr, i.wellFormed = true → decode (encode i) = .ok i

/-- A word that decodes to a command is that command's only word, and the command is well-formed (R81 to R87, R91). -/
def Obligations.EncodeOfDecode : Prop :=
  ∀ (w : Word) (i : Instr), decode w = .ok i → i.wellFormed = true ∧ encode i = w

/-- R90: decoding by the opcode w[31:28] and the operand field w[27:0], at the command's completion and before every
other check. -/
def Obligations.DecodeByFields : Prop :=
  ∀ w : Word,
    let op := w.toNat / 2 ^ 28
    let field := w.toNat % 2 ^ 28
    (op = 0x1 → decode w = if field = 0 then .ok .inspect else .error .mustBeZero) ∧
    (op = 0x2 → decode w = if field = 0 then .ok .locate else .error .mustBeZero) ∧
    (op = 0x3 → decode w = if field = 0 then .ok .prepare else .error .mustBeZero) ∧
    (op = 0x4 → decode w = .ok (.fetch field)) ∧
    (op = 0x5 → decode w =
      if field / 2 ^ 6 = 0 then .ok (.pixel (BitVec.ofNat 3 (field % 8)) (BitVec.ofNat 3 (field / 8 % 8)))
      else .error .mustBeZero) ∧
    (op = 0x6 → decode w =
      if field / 2 ^ 16 = 0 then .ok (.convert (BitVec.ofNat 8 (field % 256)) (BitVec.ofNat 8 (field / 256 % 256)))
      else .error .mustBeZero) ∧
    (op = 0x7 → decode w = .ok (.compose field)) ∧
    (op = 0x0 ∨ 0x8 ≤ op → decode w = .error .reservedOpcode) ∧
    ∀ s : State,
      engineStep w s = match decode w with
        | .ok i => exec i s
        | .error _ => completeIllegal s

/-- A few words of the spec's tables decode as it says (R93, 95 §2.1). -/
def Obligations.DecodeSpecWords : Prop :=
  decode 0x10000000 = .ok .inspect ∧ decode 0x20000000 = .ok .locate ∧ decode 0x30000000 = .ok .prepare ∧
  decode 0x4FFFFFFF = .ok (.fetch 0x0FFFFFFF) ∧ decode 0x50000025 = .ok (.pixel 5 4) ∧
  decode 0x60008780 = .ok (.convert 0x80 0x87) ∧ decode 0x70000001 = .ok (.compose 1) ∧
  decode 0x00000000 = .error .reservedOpcode ∧ decode 0x10000001 = .error .mustBeZero ∧
  decode 0x50000040 = .error .mustBeZero ∧ decode 0x60010000 = .error .mustBeZero

/-- R88, R89: a reserved opcode or a set must-be-0 bit completes with ILLEGAL_COMMAND and writes nothing else. -/
def Obligations.IllegalWordCompletes : Prop :=
  ∀ (s : State) (w : Word), s.Inv → s.busyWord = some w →
    let op := w.toNat / 2 ^ 28
    let field := w.toNat % 2 ^ 28
    (op = 0 ∨ 8 ≤ op ∨ ((op = 1 ∨ op = 2 ∨ op = 3) ∧ field ≠ 0) ∨ (op = 5 ∧ 2 ^ 6 ≤ field) ∨ (op = 6 ∧ 2 ^ 16 ≤ field)) →
    engineStep w s = .next { s with busyWord := none, err := 3, irqStatus := s.irqStatus ||| 3 }

/-! The command life cycle. -/

/-- A step runs the decoded command: with the word `w` in flight and no host step left before its completion (log
entry 2), step is the engine's step, which is exec of what `w` decodes to; before that, and with nothing in flight, it is
the host's step (R71, R163, R165). -/
def Obligations.StepRunsDecodedCommand : Prop :=
  ∀ s : State,
    (∀ w : Word, s.busyWord = some w → s.engineWait = 0 →
      step s = engineStep w s ∧ ∀ i : Instr, decode w = .ok i → step s = exec i s) ∧
    (∀ w : Word, s.busyWord = some w → s.engineWait ≠ 0 → step s = hostStep s.tick) ∧
    (s.busyWord = none → step s = hostStep s)

/-- R164: a CMD write while nothing is in flight. The model's own fields engineWait and draws, which carry LATENCY, take
some values (log entry 2). -/
def Obligations.CmdWriteAccepts : Prop :=
  ∀ (s : State) (w : Word), s.busyWord = none → ∃ k d : Nat,
    busWrite 32 0x00 w s =
      .next { s with busyWord := some w, err := 0, tainted := false, engineWait := k, draws := d }

/-- R166: a CMD write while a command is in flight. -/
def Obligations.CmdWriteOverruns : Prop :=
  ∀ (s : State) (w v : Word), s.busyWord = some w →
    busWrite 32 0x00 v s = .next { s with irqStatus := s.irqStatus ||| 4 }

/-- Every command completes from every state (R160, R165): the latch is cleared, DONE is set, ERR is set exactly on a
nonzero code, and an untainted command's code is one of R161's. -/
def Obligations.EveryCommandCompletes : Prop :=
  ∀ (i : Instr) (s : State), ∃ t, exec i s = .next t ∧ t.busyWord = none ∧
    t.irqStatus = s.irqStatus ||| (if t.err = 0 then 1 else 3) ∧ (s.tainted = false → t.err.toNat ≤ 5)

/-- The frame of all seven commands (R186's results column): what a command does not list is unchanged, the host is
untouched, and every byte of either buffer keeps its value, but for COMPOSE's SHEET. -/
def Obligations.CommandFrame : Prop :=
  ∀ (i : Instr) (s t : State), exec i s = .next t →
    t.rom = s.rom ∧ t.romLen = s.romLen ∧ t.irqEnable = s.irqEnable ∧ t.tainted = s.tainted ∧
    t.engineWait = s.engineWait ∧ t.host = s.host ∧
    (i ≠ .inspect → i ≠ .prepare → t.format = s.format) ∧
    (i ≠ .locate → i ≠ .prepare → t.chrOffset = s.chrOffset ∧ t.chrLength = s.chrLength) ∧
    ((∀ n, i ≠ .fetch n) → t.tile = s.tile ∧ t.tileIndex = s.tileIndex) ∧
    ((∀ x y, i ≠ .pixel x y) → t.pix = s.pix) ∧
    ((∀ lo hi, i ≠ .convert lo hi) → t.conv = s.conv) ∧
    ((∀ g, i ≠ .compose g) → t.sheet = s.sheet ∧ t.sheetGroup = s.sheetGroup ∧ t.sheetTiles = s.sheetTiles) ∧
    (∀ a, t.romByte a = s.romByte a) ∧
    ((∀ g, i ≠ .compose g) → ∀ a, t.sheetByte a = s.sheetByte a)

/-- A command that fails writes its error code and the completion's bits, nothing else, but for PREPARE's FORMAT (R10,
R160, 92 D12). -/
def Obligations.FailedCommandWritesNothing : Prop :=
  ∀ (i : Instr) (s t : State), s.tainted = false → exec i s = .next t → t.err ≠ 0 →
    t = { s with busyWord := none, err := t.err, irqStatus := s.irqStatus ||| 3, format := t.format } ∧
    (i ≠ .prepare → t.format = s.format)

/-- A word in flight is never changed, only completed or abandoned (R74, R166, R182). -/
def Obligations.WordInFlightIsFixed : Prop :=
  ∀ (s t : State) (w : Word), s.busyWord = some w → step s = .next t → t.busyWord = some w ∨ t.busyWord = none

/-- With the host silent, the command in flight completes after the host steps drawn for it (R5, R165). The step count is
the model's (log entry 2). -/
def Obligations.EngineCompletesInTime : Prop :=
  ∀ (s : State) (w : Word), s.busyWord = some w → s.host.program = [] →
    ∃ t, Host.Core.run core (s.engineWait + 1) s = .next t ∧ t.busyWord = none

/-- WAIT terminates (R94, R165): whatever is in flight, and however long it takes, the host leaves WAIT with the
block idle and `e` the completed command's code. The bound on `k` counts the model's own steps, those drawn for the
command (log entry 2) and the polls of WAIT (log entry 10); the spec gives no such bound. -/
def Obligations.WaitTerminates : Prop :=
  ∀ (s : State) (w : Word) (rest : List HostOp), s.busyWord = some w → s.host.program = .wait :: rest →
    ∃ k t, k ≤ s.engineWait + 2 ∧ Host.Core.run core k s = .next t ∧
      t.busyWord = none ∧ t.host.program = rest ∧ t.host.e = t.err

/-! Whole-machine rules. -/

/-- Every step keeps the invariant. Its clauses on draws are about the model's own fields (log entries 3 and 8). -/
def Obligations.StepKeepsInv : Prop := ∀ s t : State, s.Inv → step s = .next t → t.Inv

/-- The state after reset has the invariant. Its clauses on draws are about the model's own fields (log entries 3 and
8). -/
def Obligations.ResetHasInv : Prop := State.reset.Inv

/-- R28: NES20 = 1 implies VALID_INES = 1, kept by every step but a tainted completion. -/
def Obligations.Nes20ImpliesValidInes : Prop :=
  State.reset.FormatOk ∧ ∀ s t : State, s.tainted = false → s.FormatOk → step s = .next t → t.FormatOk

/-- R64: only a successful COMPOSE writes the SHEET buffer, and it writes every one of its 49152 bytes (each has a
known value after it). -/
def Obligations.OnlyComposeWritesSheet : Prop :=
  ∀ (i : Instr) (s t : State), s.tainted = false → exec i s = .next t →
    let composed := (∃ g, i = .compose g) ∧ t.err = 0
    (composed → ∀ a, (lookupCell t.sheet.cells a).isSome = true ↔ a < 49152) ∧
    (¬composed → ∀ a, t.sheetByte a = s.sheetByte a)

/-- Only ROM bytes below ROM_LEN have an effect on a command (R61): change the others, and the command does the same. -/
def Obligations.BytesPastRomLenHaveNoEffect : Prop :=
  ∀ (i : Instr) (s t : State) (m : Memory), s.tainted = false →
    (∀ a, a < s.romLen.toNat → { s with rom := m }.romByte a = s.romByte a) →
    exec i s = .next t → exec i { s with rom := m } = .next { t with rom := m }

/-- R103: only bytes 0 to 3 and bits [3:2] of byte 7 have an effect on FORMAT after INSPECT. -/
def Obligations.InspectReadsMagicAndTwoBits : Prop :=
  ∀ (s t : State) (m : Memory), s.tainted = false →
    (∀ a, a < 4 → { s with rom := m }.romByte a = s.romByte a) →
    { s with rom := m }.romByte 7 &&& 0x0C = s.romByte 7 &&& 0x0C →
    exec .inspect s = .next t → exec .inspect { s with rom := m } = .next { t with rom := m }

/-- No command's behaviour depends on FORMAT (R28: "read by no command"; R104, R152 of NES20): change it, and
every command does the same to everything else, and either leaves FORMAT as it was both times or writes the same value
into it both times. -/
def Obligations.FormatIsReadByNoCommand : Prop :=
  ∀ (i : Instr) (s t : State) (f : BitVec 2), exec i s = .next t →
    ∃ f', exec i { s with format := f } = .next { t with format := f' } ∧ ((f' = f ∧ t.format = s.format) ∨ f' = t.format)

/-! The commands. -/

/-- R100, R101, R102: INSPECT. -/
def Obligations.InspectResult : Prop :=
  decode 0x10000000 = .ok .inspect ∧
  ∀ s : State, s.tainted = false →
    let valid := s.romByte 0 = 0x4E ∧ s.romByte 1 = 0x45 ∧ s.romByte 2 = 0x53 ∧ s.romByte 3 = 0x1A
    let nes20 := valid ∧ (s.romByte 7).getLsbD 3 = true ∧ (s.romByte 7).getLsbD 2 = false
    (∀ w : Word, w.toNat / 2 ^ 28 = 0x1 → w.toNat % 2 ^ 28 ≠ 0 → CompletesIllegal s w) ∧
    (s.romLen.toNat < 16 →
      exec .inspect s = .next { s with busyWord := none, err := 1, irqStatus := s.irqStatus ||| 3 }) ∧
    (16 ≤ s.romLen.toNat → ∃ f : BitVec 2,
      exec .inspect s = .next { s with busyWord := none, err := 0, irqStatus := s.irqStatus ||| 1, format := f } ∧
      (f.getLsbD 0 = true ↔ valid) ∧ (f.getLsbD 1 = true ↔ nes20))

/-- R110, R111: LOCATE, which neither reads the magic (R115) nor checks the region's end (R114). -/
def Obligations.LocateResult : Prop :=
  decode 0x20000000 = .ok .locate ∧
  ∀ s : State, s.tainted = false →
    (∀ w : Word, w.toNat / 2 ^ 28 = 0x2 → w.toNat % 2 ^ 28 ≠ 0 → CompletesIllegal s w) ∧
    (s.romLen.toNat < 16 →
      exec .locate s = .next { s with busyWord := none, err := 1, irqStatus := s.irqStatus ||| 3 }) ∧
    (16 ≤ s.romLen.toNat → ∃ off len : Word,
      exec .locate s = .next
        { s with busyWord := none, err := 0, irqStatus := s.irqStatus ||| 1, chrOffset := off, chrLength := len } ∧
      off.toNat = 16 + (if (s.romByte 6).getLsbD 2 then 512 else 0) + (s.romByte 4).toNat * 16384 ∧
      len.toNat = (s.romByte 5).toNat * 8192)

/-- R113, R117: the ranges of a header's region, and its whole number of full groups. -/
def Obligations.LocatedRegionIsWholeGroups : Prop :=
  ∀ s t : State, s.tainted = false → 16 ≤ s.romLen.toNat → exec .locate s = .next t →
    (t.chrOffset.toNat = 16 + 16384 * (s.romByte 4).toNat ∨ t.chrOffset.toNat = 528 + 16384 * (s.romByte 4).toNat) ∧
    16 ≤ t.chrOffset.toNat ∧ t.chrOffset.toNat ≤ 4178448 ∧
    t.chrLength.toNat = 8192 * (s.romByte 5).toNat ∧ t.chrLength.toNat ≤ 2088960 ∧
    t.chrOffset.toNat + t.chrLength.toNat ≤ 6267408 ∧
    t.tileCount = 512 * (s.romByte 5).toNat ∧ t.groupCount = 2 * (s.romByte 5).toNat ∧
    ∀ g, g < t.groupCount → t.groupTiles g = 256

/-- R150, R151: PREPARE, its three checks in order, FORMAT kept on a later error. -/
def Obligations.PrepareResult : Prop :=
  decode 0x30000000 = .ok .prepare ∧
  ∀ s : State, s.tainted = false →
    let valid := s.romByte 0 = 0x4E ∧ s.romByte 1 = 0x45 ∧ s.romByte 2 = 0x53 ∧ s.romByte 3 = 0x1A
    let nes20 := valid ∧ s.romByte 7 &&& 0x0C = 0x08
    let off := 16 + (if (s.romByte 6).getLsbD 2 then 512 else 0) + (s.romByte 4).toNat * 16384
    let len := (s.romByte 5).toNat * 8192
    (∀ w : Word, w.toNat / 2 ^ 28 = 0x3 → w.toNat % 2 ^ 28 ≠ 0 → CompletesIllegal s w) ∧
    (s.romLen.toNat < 16 →
      exec .prepare s = .next { s with busyWord := none, err := 1, irqStatus := s.irqStatus ||| 3 }) ∧
    (16 ≤ s.romLen.toNat → ∃ f : BitVec 2, (f.getLsbD 0 = true ↔ valid) ∧ (f.getLsbD 1 = true ↔ nes20) ∧
      (¬valid →
        exec .prepare s = .next { s with busyWord := none, err := 2, irqStatus := s.irqStatus ||| 3, format := f }) ∧
      (valid → s.romLen.toNat < off + len →
        exec .prepare s = .next { s with busyWord := none, err := 1, irqStatus := s.irqStatus ||| 3, format := f }) ∧
      (valid → off + len ≤ s.romLen.toNat →
        exec .prepare s = .next
          { s with
            busyWord := none, err := 0, irqStatus := s.irqStatus ||| 1, format := f,
            chrOffset := BitVec.ofNat 32 off, chrLength := BitVec.ofNat 32 len }))

/-- The clamp of ROM_LEN to ROM_CAP never changes PREPARE's result (R157): with the file's length itself in ROM_LEN,
PREPARE would do the same. -/
def Obligations.RomLenClampIsHarmless : Prop :=
  ∀ (s t : State) (v : Word), s.tainted = false →
    exec .prepare { s with romLen := clampLen v } = .next t → exec .prepare { s with romLen := v } = .next { t with romLen := v }

/-- An image whose CHR region is empty produces no raster and no error (R155). That PREPARE's verdict and the group loop
are host steps of their own, and their form, is the model's choice (log entry 11). -/
def Obligations.EmptyRegionExportsNothing : Prop :=
  ∀ s : State, s.tainted = false → 16 ≤ s.romLen.toNat →
    s.romByte 0 = 0x4E → s.romByte 1 = 0x45 → s.romByte 2 = 0x53 → s.romByte 3 = 0x1A →
    (s.romByte 5) = 0 → locateOffset (s.romByte 4) (s.romByte 6) ≤ s.romLen.toNat →
    ∃ t, exec .prepare s = .next t ∧ t.err = 0 ∧ t.tileCount = 0 ∧ t.groupCount = 0 ∧
      ∀ path, (exportVerdict path (t.setE t.err)).host.program = .exportGroup path 0 0 :: t.host.program ∧
        (exportVerdict path (t.setE t.err)).host.emitted = s.host.emitted ∧
        runHostOp (.exportGroup path 0 0) t = .next t

/-- R122: FETCH. The region check comes first, then the index check; the bytes are stored verbatim. -/
def Obligations.FetchResult : Prop :=
  ∀ (n : Nat), n < 2 ^ 28 → decode (BitVec.ofNat 32 (0x40000000 + n)) = .ok (.fetch n) ∧
  ∀ s : State, s.tainted = false →
    (s.romLen.toNat < s.chrOffset.toNat + s.chrLength.toNat →
      exec (.fetch n) s = .next { s with busyWord := none, err := 1, irqStatus := s.irqStatus ||| 3 }) ∧
    (s.chrOffset.toNat + s.chrLength.toNat ≤ s.romLen.toNat → s.chrLength.toNat / 16 ≤ n →
      exec (.fetch n) s = .next { s with busyWord := none, err := 4, irqStatus := s.irqStatus ||| 3 }) ∧
    (s.chrOffset.toNat + s.chrLength.toNat ≤ s.romLen.toNat → n < s.chrLength.toNat / 16 → ∃ d : Vector Byte 16,
      exec (.fetch n) s = .next
        { s with
          busyWord := none, err := 0, irqStatus := s.irqStatus ||| 1, tile := d, tileIndex := BitVec.ofNat 28 n } ∧
      ∀ (j : Nat) (h : j < 16), d[j] = s.romByte (s.chrOffset.toNat + 16 * n + j))

/-- A region of 16k + r bytes, r < 16, holds exactly k tiles (R120, R31): FETCH of tile k - 1 succeeds where the region
is inside the image, FETCH of tile k fails with TILE_RANGE. -/
def Obligations.RemainderBytesAreNoTile : Prop :=
  ∀ (s : State) (k r : Nat), s.tainted = false → r < 16 → s.chrLength.toNat = 16 * k + r →
    s.chrOffset.toNat + s.chrLength.toNat ≤ s.romLen.toNat →
    s.tileCount = k ∧ (∃ t, exec (.fetch k) s = .next t ∧ t.err = 4 ∧ t.tile = s.tile) ∧
    (0 < k → ∃ t, exec (.fetch (k - 1)) s = .next t ∧ t.err = 0)

/-- R121, R123: PIXEL. -/
def Obligations.PixelResult : Prop :=
  (∀ x y : BitVec 3, decode (BitVec.ofNat 32 (0x50000000 + 8 * y.toNat + x.toNat)) = .ok (.pixel x y)) ∧
  ∀ s : State, s.tainted = false →
    (∀ w : Word, w.toNat / 2 ^ 28 = 0x5 → 2 ^ 6 ≤ w.toNat % 2 ^ 28 → CompletesIllegal s w) ∧
    ∀ x y : BitVec 3, ∃ v : BitVec 2,
      exec (.pixel x y) s = .next { s with busyWord := none, err := 0, irqStatus := s.irqStatus ||| 1, pix := v } ∧
      v.toNat = ((s.tile[y.toNat]'(by omega)).getLsbD (7 - x.toNat)).toNat +
        2 * ((s.tile[y.toNat + 8]'(by omega)).getLsbD (7 - x.toNat)).toNat

/-- R124: CONVERT. -/
def Obligations.ConvertResult : Prop :=
  (∀ lo hi : Byte, decode (BitVec.ofNat 32 (0x60000000 + 256 * hi.toNat + lo.toNat)) = .ok (.convert lo hi)) ∧
  ∀ s : State, s.tainted = false →
    (∀ w : Word, w.toNat / 2 ^ 28 = 0x6 → 2 ^ 16 ≤ w.toNat % 2 ^ 28 → CompletesIllegal s w) ∧
    ∀ lo hi : Byte, ∃ v : BitVec 16,
      exec (.convert lo hi) s = .next { s with busyWord := none, err := 0, irqStatus := s.irqStatus ||| 1, conv := v } ∧
      ∀ x, x < 8 → v.getLsbD (2 * x) = lo.getLsbD (7 - x) ∧ v.getLsbD (2 * x + 1) = hi.getLsbD (7 - x) ∧
        v.extractLsb' (2 * x) 2 = pix lo hi x

/-- R143: COMPOSE. Its checks, its registers, and the SHEET bytes that R143's loop of single writes leaves. -/
def Obligations.ComposeRunsItsLoop : Prop :=
  ∀ (g : Nat), g < 2 ^ 28 → decode (BitVec.ofNat 32 (0x70000000 + g)) = .ok (.compose g) ∧
  ∀ s : State, s.tainted = false →
    let n := min 256 (s.chrLength.toNat / 16 - 256 * g)
    (s.romLen.toNat < s.chrOffset.toNat + s.chrLength.toNat →
      exec (.compose g) s = .next { s with busyWord := none, err := 1, irqStatus := s.irqStatus ||| 3 }) ∧
    (s.chrOffset.toNat + s.chrLength.toNat ≤ s.romLen.toNat → (s.chrLength.toNat / 16 + 255) / 256 ≤ g →
      exec (.compose g) s = .next { s with busyWord := none, err := 5, irqStatus := s.irqStatus ||| 3 }) ∧
    (s.chrOffset.toNat + s.chrLength.toNat ≤ s.romLen.toNat → g < (s.chrLength.toNat / 16 + 255) / 256 →
      ∃ m : Memory,
        exec (.compose g) s = .next
          { s with
            busyWord := none, err := 0, irqStatus := s.irqStatus ||| 1, sheet := m,
            sheetGroup := BitVec.ofNat 28 g, sheetTiles := BitVec.ofNat 9 n } ∧
        ∀ a, a < 49152 → lookupCell m.cells a = lookupCell (composeLoop s (256 * g) n s.sheet).cells a)

/-- R144: the closed form of COMPOSE's raster. -/
def Obligations.ComposeClosedForm : Prop :=
  ∀ (s : State) (g : Nat), s.tainted = false → s.chrOffset.toNat + s.chrLength.toNat ≤ s.romLen.toNat →
    g < s.groupCount → ∃ t, exec (.compose g) s = .next t ∧ t.err = 0 ∧
      ∀ x y c, x < 128 → y < 128 → c < 3 →
        let i := 16 * (y / 8) + x / 8
        let base := s.chrOffset.toNat + 16 * (256 * g + i)
        t.sheetByte (3 * (128 * y + x) + c) =
          if i < min 256 (s.tileCount - 256 * g) then
            (palette (pix (s.romByte (base + y % 8)) (s.romByte (base + y % 8 + 8)) (x % 8))).channel c
          else 0

/-- R145: a composed raster is grey, in the four values of the colour table. -/
def Obligations.ComposedRasterIsGrey : Prop :=
  ∀ (s t : State) (g : Nat), s.tainted = false → exec (.compose g) s = .next t → t.err = 0 →
    ∀ x y, x < 128 → y < 128 →
      t.sheetByte (3 * (128 * y + x) + 1) = t.sheetByte (3 * (128 * y + x)) ∧
      t.sheetByte (3 * (128 * y + x) + 2) = t.sheetByte (3 * (128 * y + x)) ∧
      t.sheetByte (3 * (128 * y + x)) ∈ [0x00, 0x80, 0xA9, 0xFF]

/-- R141: the groups partition the tiles. -/
def Obligations.GroupsPartitionTiles : Prop :=
  ∀ s : State,
    (∀ g, g < s.groupCount → s.groupTiles g = min 256 (s.tileCount - 256 * g) ∧ 1 ≤ s.groupTiles g ∧
      s.groupTiles g ≤ 256 ∧ (g + 1 < s.groupCount → s.groupTiles g = 256) ∧
      (g + 1 = s.groupCount → s.groupTiles g = s.tileCount - 256 * (s.groupCount - 1))) ∧
    ∀ t, t < s.tileCount →
      t / 256 < s.groupCount ∧ t % 256 < s.groupTiles (t / 256) ∧
      ∀ g i, g < s.groupCount → i < s.groupTiles g → t = 256 * g + i → g = t / 256 ∧ i = t % 256

/-- R140: the colour table. -/
def Obligations.ColourTable : Prop :=
  [0#2, 1#2, 2#2, 3#2].map (fun i => [(palette i).channel 0, (palette i).channel 1, (palette i).channel 2]) =
    [[0x00, 0x00, 0x00], [0x80, 0x80, 0x80], [0xA9, 0xA9, 0xA9], [0xFF, 0xFF, 0xFF]]

/-! Reset. -/

/-- R181, R184: every register after a reset, whatever the block was doing, and after power-on. -/
def Obligations.ResetValues : Prop :=
  (∀ s : State, ∃ t, runHostOp .reset s = .next t) ∧
  ∀ t : State, (t = State.reset ∨ ∃ s : State, runHostOp .reset s = .next t) →
    t.busyWord = none ∧ t.tainted = false ∧ t.err = 0 ∧ t.irqStatus = 0 ∧ t.irqEnable = 0 ∧ t.romLen = 0 ∧
    t.format = 0 ∧ t.chrOffset = 0 ∧ t.chrLength = 0 ∧ t.tileCount = 0 ∧ t.groupCount = 0 ∧ t.tileIndex = 0 ∧
    (∀ (j : Nat) (h : j < 16), t.tile[j] = 0) ∧ t.pix = 0 ∧ t.conv = 0 ∧ t.sheetGroup = 0 ∧ t.sheetTiles = 0 ∧
    t.irq = false

/-! The host's bus. -/

/-- R66, R69, R178: which accesses have a meaning; every other one is refused. -/
def Obligations.BusAccessRules : Prop :=
  ∀ (width addr : Nat) (s : State),
    let legal := (addr < 0x100 ∧ width = 32 ∧ addr % 4 = 0) ∨
      (0x10000 ≤ addr ∧ addr < 0x1C000 ∧ width = 8) ∨
      (0x1000000 ≤ addr ∧ addr < 0x1000000 + Config.romCap ∧ width = 8)
    (legal → (∃ t, busRead width addr s = .next t) ∧ ∀ v, ∃ t, busWrite width addr v s = .next t) ∧
    (¬legal → busRead width addr s = .refused .hostBusError ∧
      ∀ v, busWrite width addr v s = .refused .hostBusError)

/-- R22: what the host reads at each register offset, with nothing in flight, and that the read leaves the block as it
is (R67). -/
def Obligations.RegisterReads : Prop :=
  ∀ s : State, s.busyWord = none → ∀ off value : Nat,
    (off, value) ∈
      [(0x00, 0), (0x04, 256 * s.err.toNat), (0x08, s.irqStatus.toNat), (0x0C, s.irqEnable.toNat),
       (0x10, s.romLen.toNat), (0x14, s.format.toNat), (0x18, s.chrOffset.toNat), (0x1C, s.chrLength.toNat),
       (0x20, s.chrLength.toNat / 16), (0x24, (s.chrLength.toNat / 16 + 255) / 256), (0x28, s.tileIndex.toNat),
       (0x3C, s.pix.toNat), (0x40, s.conv.toNat), (0x44, s.sheetGroup.toNat), (0x48, s.sheetTiles.toNat)] →
    ∃ t, busRead 32 off s = .next t ∧ t.host.data.toNat = value ∧ SameBlock s t

/-- R24: STATUS in every state: BUSY in bit 0, ERR in bits [11:8], 0 elsewhere. -/
def Obligations.StatusReads : Prop :=
  ∀ s : State, ∃ t, busRead 32 0x04 s = .next t ∧
    t.host.data.toNat = 256 * s.err.toNat + (if s.busyWord = none then 0 else 1) ∧
    (∀ v, busWrite 32 0x04 v s = .next s) ∧ (s.Inv → s.busyWord ≠ none → t.host.data.toNat = 1)

/-- R34: how the tile buffer's bytes stand in TILE_DATA0 to TILE_DATA3. -/
def Obligations.TileDataPacking : Prop :=
  ∀ (s : State) (j : Nat) (h : j < 16), s.busyWord = none → ∃ t, busRead 32 (0x2C + 4 * (j / 4)) s = .next t ∧
    t.host.data.extractLsb' (8 * (j % 4)) 8 = s.tile[j]

/-- R39, 92 D26: a reserved offset reads 0 and ignores writes; read-only registers and the SHEET window ignore
writes. -/
def Obligations.IgnoredWrites : Prop :=
  ∀ (s : State) (v : Word),
    (∀ off, 0x4C ≤ off → off < 0x100 → off % 4 = 0 →
      busWrite 32 off v s = .next s ∧ ∃ t, busRead 32 off s = .next t ∧ t.host.data = 0 ∧ SameBlock s t) ∧
    (∀ off, off ∈ [0x04, 0x14, 0x20, 0x24, 0x28, 0x2C, 0x30, 0x34, 0x38, 0x3C, 0x40, 0x44, 0x48] →
      busWrite 32 off v s = .next s) ∧
    ∀ a, a < 49152 → busWrite 8 (0x10000 + a) v s = .next s

/-- R25, R169: writing 1s to IRQ_STATUS clears those bits and no others; nothing else changes. -/
def Obligations.IrqAcknowledge : Prop :=
  ∀ (s : State) (v : Word), ∃ p : BitVec 3, busWrite 32 0x08 v s = .next { s with irqStatus := p } ∧
    ∀ i, i < 3 → p.getLsbD i = (s.irqStatus.getLsbD i && !v.getLsbD i)

/-- R26: IRQ_ENABLE holds what the host wrote to bits [2:0], reads back so, and no completion writes it. -/
def Obligations.IrqEnableHoldsThreeBits : Prop :=
  ∀ (s : State) (v : Word), ∃ p : BitVec 3, busWrite 32 0x0C v s = .next { s with irqEnable := p } ∧
    p.toNat = v.toNat % 8 ∧ (∃ t, busRead 32 0x0C { s with irqEnable := p } = .next t ∧ t.host.data.toNat = v.toNat % 8) ∧
    ∀ (w : Word) (t : State), engineStep w s = .next t → t.irqEnable = s.irqEnable

/-- R168: the interrupt output. -/
def Obligations.IrqOutput : Prop :=
  ∀ s : State, s.irq = true ↔ ∃ i, i < 3 ∧ s.irqStatus.getLsbD i = true ∧ s.irqEnable.getLsbD i = true

/-- R27: ROM_LEN stores min(v, ROM_CAP), reads back so, and no completion writes it. -/
def Obligations.RomLenClamps : Prop :=
  ∀ (s : State) (v : Word), ∃ (n : Word) (b : Bool), busWrite 32 0x10 v s = .next { s with romLen := n, tainted := b } ∧
    n.toNat = min v.toNat Config.romCap ∧
    (∃ t, busRead 32 0x10 { s with romLen := n, tainted := b } = .next t ∧ t.host.data = n) ∧
    ∀ (w : Word) (t : State), engineStep w s = .next t → t.romLen = s.romLen

/-- R31, R32: TILE_COUNT and GROUP_COUNT are CHR_LENGTH's in every state, they read so (but while a LOCATE or a PREPARE
is in flight, where ReadsHaveNoEffect and log entry 5 speak), and a write to CHR_LENGTH changes them at once. A write to
CHR_LENGTH or CHR_OFFSET changes nothing else but the hazard flag. -/
def Obligations.CountsFollowChrLength : Prop :=
  ∀ s : State,
    s.tileCount = s.chrLength.toNat / 16 ∧ s.tileCount < 2 ^ 28 ∧
    s.groupCount = (s.tileCount + 255) / 256 ∧ s.groupCount < 2 ^ 21 ∧
    (s.inflight ≠ some .locate → s.inflight ≠ some .prepare →
      (∃ t, busRead 32 0x20 s = .next t ∧ t.host.data.toNat = s.tileCount) ∧
      ∃ t, busRead 32 0x24 s = .next t ∧ t.host.data.toNat = s.groupCount) ∧
    ∀ v : Word, ∃ (t u : State) (b c : Bool),
      busWrite 32 0x1C v s = .next t ∧ t = { s with chrLength := v, tainted := b } ∧ t.tileCount = v.toNat / 16 ∧
      t.groupCount = (v.toNat / 16 + 255) / 256 ∧
      busWrite 32 0x18 v s = .next u ∧ u = { s with chrOffset := v, tainted := c } ∧ u.tileCount = s.tileCount ∧
      u.groupCount = s.groupCount

/-- A ROM byte written through the ROM window reads back, and no other ROM byte changes (R41, R67, R68). That an 8-bit
write is given a 32-bit value and stores its low byte is the model's (log entry 7). -/
def Obligations.RomByteReadsBack : Prop :=
  ∀ (s : State) (a : Nat) (v : Word), a < Config.romCap →
    ∃ (m : Memory) (b : Bool), busWrite 8 (0x1000000 + a) v s = .next { s with rom := m, tainted := b } ∧
      (∀ c, { s with rom := m }.romByte c = if c = a then v.setWidth 8 else s.romByte c) ∧
      ∃ t, busRead 8 (0x1000000 + a) { s with rom := m, tainted := b } = .next t ∧ t.host.data.toNat = v.toNat % 256

/-- R67, R187: a read leaves the block as it is, and returns the location's value unless the command in flight lists
the location among its results. That TILE_COUNT and GROUP_COUNT are among no command's results, so that they read their
values under a LOCATE or a PREPARE too, is the model's reading (log entry 5). -/
def Obligations.ReadsHaveNoEffect : Prop :=
  ∀ (s : State) (width addr : Nat) (g : Target), busTarget width addr = some g →
    ∃ t, busRead width addr s = .next t ∧ SameBlock s t ∧ t.host.program = s.host.program ∧
      (s.busyWord = none ∨ (∀ i l, s.inflight = some i → g.resultLoc = some l → l ∉ i.results) →
        t.host.data = s.readTarget g)

/-- R45, R186: a host write sets `tainted` exactly where it reaches an input of the command in flight; the write itself
takes effect. That an 8-bit write is given a 32-bit value and stores its low byte is the model's (log entry 7). -/
def Obligations.InputHazardTaints : Prop :=
  ∀ (s : State) (v : Word),
    let readsRom := s.inflight = some .inspect ∨ s.inflight = some .locate ∨ s.inflight = some .prepare ∨
      (∃ n, s.inflight = some (.fetch n)) ∨ ∃ g, s.inflight = some (.compose g)
    let readsRegion := (∃ n, s.inflight = some (.fetch n)) ∨ ∃ g, s.inflight = some (.compose g)
    (∃ t, busWrite 32 0x10 v s = .next t ∧ t.romLen = clampLen v ∧
      (t.tainted = true ↔ s.tainted = true ∨ readsRom)) ∧
    (∃ t, busWrite 32 0x18 v s = .next t ∧ t.chrOffset = v ∧ (t.tainted = true ↔ s.tainted = true ∨ readsRegion)) ∧
    (∃ t, busWrite 32 0x1C v s = .next t ∧ t.chrLength = v ∧ (t.tainted = true ↔ s.tainted = true ∨ readsRegion)) ∧
    ∀ a, a < Config.romCap → ∃ t, busWrite 8 (0x1000000 + a) v s = .next t ∧ t.romByte a = v.setWidth 8 ∧
      (t.tainted = true ↔ s.tainted = true ∨ readsRom)

/-! The export. -/

/-- R95, R154: the host's export of one file shows exactly R154's output, for every file, every content of the block
and every LATENCY. The model's own: the order of host steps and completions (log entry 2), a poll of WAIT as one step
(log entry 10), and EXPORT's split into host steps, its hand-over as one step and the decimal group index in a file name
(log entry 11). -/
def Obligations.ExportShowsItsOutput : Prop :=
  ∀ (path : String) (bytes : List Byte) (s : State), s.busyWord = none → s.host.program = [.exportImage path bytes] →
    ∃ k t, Host.Core.run core k s = .next t ∧ t.busyWord = none ∧ t.host.program = [] ∧
      t.host.emitted = s.host.emitted ++ exportOutput path bytes

/-! The buffers as the host and a reset find them. -/

/-- After a reset no byte of either buffer is known (R183): every byte is the free value of the state's next draw, a draw
that neither buffer had before. That a byte's value comes from a numbered draw is the model's (log entries 3, 8 and
18). -/
def Obligations.ResetForgetsBuffers : Prop :=
  (∀ a, State.reset.romByte a = Config.anyRomByte State.reset.rom.draw a) ∧
  (∀ a, State.reset.sheetByte a = Config.anySheetByte State.reset.sheet.draw a) ∧
  ∀ s : State, ∃ t, runHostOp .reset s = .next t ∧
    t.rom = { cells := [], draw := s.draws } ∧ t.sheet = { cells := [], draw := s.draws } ∧ s.draws < t.draws ∧
    (∀ a, t.romByte a = Config.anyRomByte s.draws a ∧ t.sheetByte a = Config.anySheetByte s.draws a) ∧
    (s.Inv → s.rom.draw ≠ t.rom.draw ∧ s.sheet.draw ≠ t.sheet.draw)

/-- An 8-bit read at a window's address reads that byte of that buffer (R42, R67, R68): SHEET byte `a` while no COMPOSE
is in flight, ROM byte `a` in every state. -/
def Obligations.BufferByteReads : Prop :=
  ∀ (s : State) (a : Nat),
    (a < 49152 → (∀ g, s.inflight ≠ some (.compose g)) →
      ∃ t, busRead 8 (0x10000 + a) s = .next t ∧ t.host.data.toNat = (s.sheetByte a).toNat ∧ SameBlock s t) ∧
    (a < Config.romCap →
      ∃ t, busRead 8 (0x1000000 + a) s = .next t ∧ t.host.data.toNat = (s.romByte a).toNat ∧ SameBlock s t)
end

