-- ==== Sys2Proof/Laws/State.lean ====
section
/-! SUPPORT. One lemma per field per named update of State, so that no proof unfolds a record update. -/

namespace Sys2Proof.Machine

section setFormat
variable (s : State) (v : BitVec 2)
@[simp] theorem State.setFormat_busyWord : (s.setFormat v).busyWord = s.busyWord := rfl
@[simp] theorem State.setFormat_tainted : (s.setFormat v).tainted = s.tainted := rfl
@[simp] theorem State.setFormat_err : (s.setFormat v).err = s.err := rfl
@[simp] theorem State.setFormat_irqStatus : (s.setFormat v).irqStatus = s.irqStatus := rfl
@[simp] theorem State.setFormat_irqEnable : (s.setFormat v).irqEnable = s.irqEnable := rfl
@[simp] theorem State.setFormat_romLen : (s.setFormat v).romLen = s.romLen := rfl
@[simp] theorem State.setFormat_format : (s.setFormat v).format = v := rfl
@[simp] theorem State.setFormat_chrOffset : (s.setFormat v).chrOffset = s.chrOffset := rfl
@[simp] theorem State.setFormat_chrLength : (s.setFormat v).chrLength = s.chrLength := rfl
@[simp] theorem State.setFormat_tileIndex : (s.setFormat v).tileIndex = s.tileIndex := rfl
@[simp] theorem State.setFormat_tile : (s.setFormat v).tile = s.tile := rfl
@[simp] theorem State.setFormat_pix : (s.setFormat v).pix = s.pix := rfl
@[simp] theorem State.setFormat_conv : (s.setFormat v).conv = s.conv := rfl
@[simp] theorem State.setFormat_sheetGroup : (s.setFormat v).sheetGroup = s.sheetGroup := rfl
@[simp] theorem State.setFormat_sheetTiles : (s.setFormat v).sheetTiles = s.sheetTiles := rfl
@[simp] theorem State.setFormat_rom : (s.setFormat v).rom = s.rom := rfl
@[simp] theorem State.setFormat_sheet : (s.setFormat v).sheet = s.sheet := rfl
@[simp] theorem State.setFormat_engineWait : (s.setFormat v).engineWait = s.engineWait := rfl
@[simp] theorem State.setFormat_draws : (s.setFormat v).draws = s.draws := rfl
@[simp] theorem State.setFormat_host : (s.setFormat v).host = s.host := rfl
end setFormat

section setRegion
variable (s : State) (offset length : Word)
@[simp] theorem State.setRegion_busyWord : (s.setRegion offset length).busyWord = s.busyWord := rfl
@[simp] theorem State.setRegion_tainted : (s.setRegion offset length).tainted = s.tainted := rfl
@[simp] theorem State.setRegion_err : (s.setRegion offset length).err = s.err := rfl
@[simp] theorem State.setRegion_irqStatus : (s.setRegion offset length).irqStatus = s.irqStatus := rfl
@[simp] theorem State.setRegion_irqEnable : (s.setRegion offset length).irqEnable = s.irqEnable := rfl
@[simp] theorem State.setRegion_romLen : (s.setRegion offset length).romLen = s.romLen := rfl
@[simp] theorem State.setRegion_format : (s.setRegion offset length).format = s.format := rfl
@[simp] theorem State.setRegion_chrOffset : (s.setRegion offset length).chrOffset = offset := rfl
@[simp] theorem State.setRegion_chrLength : (s.setRegion offset length).chrLength = length := rfl
@[simp] theorem State.setRegion_tileIndex : (s.setRegion offset length).tileIndex = s.tileIndex := rfl
@[simp] theorem State.setRegion_tile : (s.setRegion offset length).tile = s.tile := rfl
@[simp] theorem State.setRegion_pix : (s.setRegion offset length).pix = s.pix := rfl
@[simp] theorem State.setRegion_conv : (s.setRegion offset length).conv = s.conv := rfl
@[simp] theorem State.setRegion_sheetGroup : (s.setRegion offset length).sheetGroup = s.sheetGroup := rfl
@[simp] theorem State.setRegion_sheetTiles : (s.setRegion offset length).sheetTiles = s.sheetTiles := rfl
@[simp] theorem State.setRegion_rom : (s.setRegion offset length).rom = s.rom := rfl
@[simp] theorem State.setRegion_sheet : (s.setRegion offset length).sheet = s.sheet := rfl
@[simp] theorem State.setRegion_engineWait : (s.setRegion offset length).engineWait = s.engineWait := rfl
@[simp] theorem State.setRegion_draws : (s.setRegion offset length).draws = s.draws := rfl
@[simp] theorem State.setRegion_host : (s.setRegion offset length).host = s.host := rfl
end setRegion

section setTile
variable (s : State) (d : Vector Byte 16) (t : BitVec 28)
@[simp] theorem State.setTile_busyWord : (s.setTile d t).busyWord = s.busyWord := rfl
@[simp] theorem State.setTile_tainted : (s.setTile d t).tainted = s.tainted := rfl
@[simp] theorem State.setTile_err : (s.setTile d t).err = s.err := rfl
@[simp] theorem State.setTile_irqStatus : (s.setTile d t).irqStatus = s.irqStatus := rfl
@[simp] theorem State.setTile_irqEnable : (s.setTile d t).irqEnable = s.irqEnable := rfl
@[simp] theorem State.setTile_romLen : (s.setTile d t).romLen = s.romLen := rfl
@[simp] theorem State.setTile_format : (s.setTile d t).format = s.format := rfl
@[simp] theorem State.setTile_chrOffset : (s.setTile d t).chrOffset = s.chrOffset := rfl
@[simp] theorem State.setTile_chrLength : (s.setTile d t).chrLength = s.chrLength := rfl
@[simp] theorem State.setTile_tileIndex : (s.setTile d t).tileIndex = t := rfl
@[simp] theorem State.setTile_tile : (s.setTile d t).tile = d := rfl
@[simp] theorem State.setTile_pix : (s.setTile d t).pix = s.pix := rfl
@[simp] theorem State.setTile_conv : (s.setTile d t).conv = s.conv := rfl
@[simp] theorem State.setTile_sheetGroup : (s.setTile d t).sheetGroup = s.sheetGroup := rfl
@[simp] theorem State.setTile_sheetTiles : (s.setTile d t).sheetTiles = s.sheetTiles := rfl
@[simp] theorem State.setTile_rom : (s.setTile d t).rom = s.rom := rfl
@[simp] theorem State.setTile_sheet : (s.setTile d t).sheet = s.sheet := rfl
@[simp] theorem State.setTile_engineWait : (s.setTile d t).engineWait = s.engineWait := rfl
@[simp] theorem State.setTile_draws : (s.setTile d t).draws = s.draws := rfl
@[simp] theorem State.setTile_host : (s.setTile d t).host = s.host := rfl
end setTile

section setPix
variable (s : State) (v : BitVec 2)
@[simp] theorem State.setPix_busyWord : (s.setPix v).busyWord = s.busyWord := rfl
@[simp] theorem State.setPix_tainted : (s.setPix v).tainted = s.tainted := rfl
@[simp] theorem State.setPix_err : (s.setPix v).err = s.err := rfl
@[simp] theorem State.setPix_irqStatus : (s.setPix v).irqStatus = s.irqStatus := rfl
@[simp] theorem State.setPix_irqEnable : (s.setPix v).irqEnable = s.irqEnable := rfl
@[simp] theorem State.setPix_romLen : (s.setPix v).romLen = s.romLen := rfl
@[simp] theorem State.setPix_format : (s.setPix v).format = s.format := rfl
@[simp] theorem State.setPix_chrOffset : (s.setPix v).chrOffset = s.chrOffset := rfl
@[simp] theorem State.setPix_chrLength : (s.setPix v).chrLength = s.chrLength := rfl
@[simp] theorem State.setPix_tileIndex : (s.setPix v).tileIndex = s.tileIndex := rfl
@[simp] theorem State.setPix_tile : (s.setPix v).tile = s.tile := rfl
@[simp] theorem State.setPix_pix : (s.setPix v).pix = v := rfl
@[simp] theorem State.setPix_conv : (s.setPix v).conv = s.conv := rfl
@[simp] theorem State.setPix_sheetGroup : (s.setPix v).sheetGroup = s.sheetGroup := rfl
@[simp] theorem State.setPix_sheetTiles : (s.setPix v).sheetTiles = s.sheetTiles := rfl
@[simp] theorem State.setPix_rom : (s.setPix v).rom = s.rom := rfl
@[simp] theorem State.setPix_sheet : (s.setPix v).sheet = s.sheet := rfl
@[simp] theorem State.setPix_engineWait : (s.setPix v).engineWait = s.engineWait := rfl
@[simp] theorem State.setPix_draws : (s.setPix v).draws = s.draws := rfl
@[simp] theorem State.setPix_host : (s.setPix v).host = s.host := rfl
end setPix

section setConv
variable (s : State) (v : BitVec 16)
@[simp] theorem State.setConv_busyWord : (s.setConv v).busyWord = s.busyWord := rfl
@[simp] theorem State.setConv_tainted : (s.setConv v).tainted = s.tainted := rfl
@[simp] theorem State.setConv_err : (s.setConv v).err = s.err := rfl
@[simp] theorem State.setConv_irqStatus : (s.setConv v).irqStatus = s.irqStatus := rfl
@[simp] theorem State.setConv_irqEnable : (s.setConv v).irqEnable = s.irqEnable := rfl
@[simp] theorem State.setConv_romLen : (s.setConv v).romLen = s.romLen := rfl
@[simp] theorem State.setConv_format : (s.setConv v).format = s.format := rfl
@[simp] theorem State.setConv_chrOffset : (s.setConv v).chrOffset = s.chrOffset := rfl
@[simp] theorem State.setConv_chrLength : (s.setConv v).chrLength = s.chrLength := rfl
@[simp] theorem State.setConv_tileIndex : (s.setConv v).tileIndex = s.tileIndex := rfl
@[simp] theorem State.setConv_tile : (s.setConv v).tile = s.tile := rfl
@[simp] theorem State.setConv_pix : (s.setConv v).pix = s.pix := rfl
@[simp] theorem State.setConv_conv : (s.setConv v).conv = v := rfl
@[simp] theorem State.setConv_sheetGroup : (s.setConv v).sheetGroup = s.sheetGroup := rfl
@[simp] theorem State.setConv_sheetTiles : (s.setConv v).sheetTiles = s.sheetTiles := rfl
@[simp] theorem State.setConv_rom : (s.setConv v).rom = s.rom := rfl
@[simp] theorem State.setConv_sheet : (s.setConv v).sheet = s.sheet := rfl
@[simp] theorem State.setConv_engineWait : (s.setConv v).engineWait = s.engineWait := rfl
@[simp] theorem State.setConv_draws : (s.setConv v).draws = s.draws := rfl
@[simp] theorem State.setConv_host : (s.setConv v).host = s.host := rfl
end setConv

section setSheet
variable (s : State) (m : Memory) (g : BitVec 28) (n : BitVec 9)
@[simp] theorem State.setSheet_busyWord : (s.setSheet m g n).busyWord = s.busyWord := rfl
@[simp] theorem State.setSheet_tainted : (s.setSheet m g n).tainted = s.tainted := rfl
@[simp] theorem State.setSheet_err : (s.setSheet m g n).err = s.err := rfl
@[simp] theorem State.setSheet_irqStatus : (s.setSheet m g n).irqStatus = s.irqStatus := rfl
@[simp] theorem State.setSheet_irqEnable : (s.setSheet m g n).irqEnable = s.irqEnable := rfl
@[simp] theorem State.setSheet_romLen : (s.setSheet m g n).romLen = s.romLen := rfl
@[simp] theorem State.setSheet_format : (s.setSheet m g n).format = s.format := rfl
@[simp] theorem State.setSheet_chrOffset : (s.setSheet m g n).chrOffset = s.chrOffset := rfl
@[simp] theorem State.setSheet_chrLength : (s.setSheet m g n).chrLength = s.chrLength := rfl
@[simp] theorem State.setSheet_tileIndex : (s.setSheet m g n).tileIndex = s.tileIndex := rfl
@[simp] theorem State.setSheet_tile : (s.setSheet m g n).tile = s.tile := rfl
@[simp] theorem State.setSheet_pix : (s.setSheet m g n).pix = s.pix := rfl
@[simp] theorem State.setSheet_conv : (s.setSheet m g n).conv = s.conv := rfl
@[simp] theorem State.setSheet_sheetGroup : (s.setSheet m g n).sheetGroup = g := rfl
@[simp] theorem State.setSheet_sheetTiles : (s.setSheet m g n).sheetTiles = n := rfl
@[simp] theorem State.setSheet_rom : (s.setSheet m g n).rom = s.rom := rfl
@[simp] theorem State.setSheet_sheet : (s.setSheet m g n).sheet = m := rfl
@[simp] theorem State.setSheet_engineWait : (s.setSheet m g n).engineWait = s.engineWait := rfl
@[simp] theorem State.setSheet_draws : (s.setSheet m g n).draws = s.draws := rfl
@[simp] theorem State.setSheet_host : (s.setSheet m g n).host = s.host := rfl
end setSheet

section drawn
variable (s : State)
@[simp] theorem State.drawn_busyWord : s.drawn.busyWord = s.busyWord := rfl
@[simp] theorem State.drawn_tainted : s.drawn.tainted = s.tainted := rfl
@[simp] theorem State.drawn_err : s.drawn.err = s.err := rfl
@[simp] theorem State.drawn_irqStatus : s.drawn.irqStatus = s.irqStatus := rfl
@[simp] theorem State.drawn_irqEnable : s.drawn.irqEnable = s.irqEnable := rfl
@[simp] theorem State.drawn_romLen : s.drawn.romLen = s.romLen := rfl
@[simp] theorem State.drawn_format : s.drawn.format = s.format := rfl
@[simp] theorem State.drawn_chrOffset : s.drawn.chrOffset = s.chrOffset := rfl
@[simp] theorem State.drawn_chrLength : s.drawn.chrLength = s.chrLength := rfl
@[simp] theorem State.drawn_tileIndex : s.drawn.tileIndex = s.tileIndex := rfl
@[simp] theorem State.drawn_tile : s.drawn.tile = s.tile := rfl
@[simp] theorem State.drawn_pix : s.drawn.pix = s.pix := rfl
@[simp] theorem State.drawn_conv : s.drawn.conv = s.conv := rfl
@[simp] theorem State.drawn_sheetGroup : s.drawn.sheetGroup = s.sheetGroup := rfl
@[simp] theorem State.drawn_sheetTiles : s.drawn.sheetTiles = s.sheetTiles := rfl
@[simp] theorem State.drawn_rom : s.drawn.rom = s.rom := rfl
@[simp] theorem State.drawn_sheet : s.drawn.sheet = s.sheet := rfl
@[simp] theorem State.drawn_engineWait : s.drawn.engineWait = s.engineWait := rfl
@[simp] theorem State.drawn_draws : s.drawn.draws = s.draws + 1 := rfl
@[simp] theorem State.drawn_host : s.drawn.host = s.host := rfl
end drawn

section accept
variable (s : State) (w : Word)
@[simp] theorem State.accept_busyWord : (s.accept w).busyWord = some w := rfl
@[simp] theorem State.accept_tainted : (s.accept w).tainted = false := rfl
@[simp] theorem State.accept_err : (s.accept w).err = 0 := rfl
@[simp] theorem State.accept_irqStatus : (s.accept w).irqStatus = s.irqStatus := rfl
@[simp] theorem State.accept_irqEnable : (s.accept w).irqEnable = s.irqEnable := rfl
@[simp] theorem State.accept_romLen : (s.accept w).romLen = s.romLen := rfl
@[simp] theorem State.accept_format : (s.accept w).format = s.format := rfl
@[simp] theorem State.accept_chrOffset : (s.accept w).chrOffset = s.chrOffset := rfl
@[simp] theorem State.accept_chrLength : (s.accept w).chrLength = s.chrLength := rfl
@[simp] theorem State.accept_tileIndex : (s.accept w).tileIndex = s.tileIndex := rfl
@[simp] theorem State.accept_tile : (s.accept w).tile = s.tile := rfl
@[simp] theorem State.accept_pix : (s.accept w).pix = s.pix := rfl
@[simp] theorem State.accept_conv : (s.accept w).conv = s.conv := rfl
@[simp] theorem State.accept_sheetGroup : (s.accept w).sheetGroup = s.sheetGroup := rfl
@[simp] theorem State.accept_sheetTiles : (s.accept w).sheetTiles = s.sheetTiles := rfl
@[simp] theorem State.accept_rom : (s.accept w).rom = s.rom := rfl
@[simp] theorem State.accept_sheet : (s.accept w).sheet = s.sheet := rfl
@[simp] theorem State.accept_engineWait : (s.accept w).engineWait = Config.hostStepsFirst s.draws := rfl
@[simp] theorem State.accept_draws : (s.accept w).draws = s.draws + 1 := rfl
@[simp] theorem State.accept_host : (s.accept w).host = s.host := rfl
end accept

section overrun
variable (s : State)
@[simp] theorem State.overrun_busyWord : s.overrun.busyWord = s.busyWord := rfl
@[simp] theorem State.overrun_tainted : s.overrun.tainted = s.tainted := rfl
@[simp] theorem State.overrun_err : s.overrun.err = s.err := rfl
@[simp] theorem State.overrun_irqStatus : s.overrun.irqStatus = s.irqStatus ||| irqOvr := rfl
@[simp] theorem State.overrun_irqEnable : s.overrun.irqEnable = s.irqEnable := rfl
@[simp] theorem State.overrun_romLen : s.overrun.romLen = s.romLen := rfl
@[simp] theorem State.overrun_format : s.overrun.format = s.format := rfl
@[simp] theorem State.overrun_chrOffset : s.overrun.chrOffset = s.chrOffset := rfl
@[simp] theorem State.overrun_chrLength : s.overrun.chrLength = s.chrLength := rfl
@[simp] theorem State.overrun_tileIndex : s.overrun.tileIndex = s.tileIndex := rfl
@[simp] theorem State.overrun_tile : s.overrun.tile = s.tile := rfl
@[simp] theorem State.overrun_pix : s.overrun.pix = s.pix := rfl
@[simp] theorem State.overrun_conv : s.overrun.conv = s.conv := rfl
@[simp] theorem State.overrun_sheetGroup : s.overrun.sheetGroup = s.sheetGroup := rfl
@[simp] theorem State.overrun_sheetTiles : s.overrun.sheetTiles = s.sheetTiles := rfl
@[simp] theorem State.overrun_rom : s.overrun.rom = s.rom := rfl
@[simp] theorem State.overrun_sheet : s.overrun.sheet = s.sheet := rfl
@[simp] theorem State.overrun_engineWait : s.overrun.engineWait = s.engineWait := rfl
@[simp] theorem State.overrun_draws : s.overrun.draws = s.draws := rfl
@[simp] theorem State.overrun_host : s.overrun.host = s.host := rfl
end overrun

section conclude
variable (s : State) (code : BitVec 4)
@[simp] theorem State.conclude_busyWord : (s.conclude code).busyWord = none := rfl
@[simp] theorem State.conclude_tainted : (s.conclude code).tainted = s.tainted := rfl
@[simp] theorem State.conclude_err : (s.conclude code).err = code := rfl
@[simp] theorem State.conclude_irqStatus : (s.conclude code).irqStatus = s.irqStatus ||| completionBits code := rfl
@[simp] theorem State.conclude_irqEnable : (s.conclude code).irqEnable = s.irqEnable := rfl
@[simp] theorem State.conclude_romLen : (s.conclude code).romLen = s.romLen := rfl
@[simp] theorem State.conclude_format : (s.conclude code).format = s.format := rfl
@[simp] theorem State.conclude_chrOffset : (s.conclude code).chrOffset = s.chrOffset := rfl
@[simp] theorem State.conclude_chrLength : (s.conclude code).chrLength = s.chrLength := rfl
@[simp] theorem State.conclude_tileIndex : (s.conclude code).tileIndex = s.tileIndex := rfl
@[simp] theorem State.conclude_tile : (s.conclude code).tile = s.tile := rfl
@[simp] theorem State.conclude_pix : (s.conclude code).pix = s.pix := rfl
@[simp] theorem State.conclude_conv : (s.conclude code).conv = s.conv := rfl
@[simp] theorem State.conclude_sheetGroup : (s.conclude code).sheetGroup = s.sheetGroup := rfl
@[simp] theorem State.conclude_sheetTiles : (s.conclude code).sheetTiles = s.sheetTiles := rfl
@[simp] theorem State.conclude_rom : (s.conclude code).rom = s.rom := rfl
@[simp] theorem State.conclude_sheet : (s.conclude code).sheet = s.sheet := rfl
@[simp] theorem State.conclude_engineWait : (s.conclude code).engineWait = s.engineWait := rfl
@[simp] theorem State.conclude_draws : (s.conclude code).draws = s.draws := rfl
@[simp] theorem State.conclude_host : (s.conclude code).host = s.host := rfl
end conclude

section touch
variable (s : State) (l : InputLoc)
@[simp] theorem State.touch_busyWord : (s.touch l).busyWord = s.busyWord := rfl
@[simp] theorem State.touch_tainted : (s.touch l).tainted = (s.tainted || s.isInput l) := rfl
@[simp] theorem State.touch_err : (s.touch l).err = s.err := rfl
@[simp] theorem State.touch_irqStatus : (s.touch l).irqStatus = s.irqStatus := rfl
@[simp] theorem State.touch_irqEnable : (s.touch l).irqEnable = s.irqEnable := rfl
@[simp] theorem State.touch_romLen : (s.touch l).romLen = s.romLen := rfl
@[simp] theorem State.touch_format : (s.touch l).format = s.format := rfl
@[simp] theorem State.touch_chrOffset : (s.touch l).chrOffset = s.chrOffset := rfl
@[simp] theorem State.touch_chrLength : (s.touch l).chrLength = s.chrLength := rfl
@[simp] theorem State.touch_tileIndex : (s.touch l).tileIndex = s.tileIndex := rfl
@[simp] theorem State.touch_tile : (s.touch l).tile = s.tile := rfl
@[simp] theorem State.touch_pix : (s.touch l).pix = s.pix := rfl
@[simp] theorem State.touch_conv : (s.touch l).conv = s.conv := rfl
@[simp] theorem State.touch_sheetGroup : (s.touch l).sheetGroup = s.sheetGroup := rfl
@[simp] theorem State.touch_sheetTiles : (s.touch l).sheetTiles = s.sheetTiles := rfl
@[simp] theorem State.touch_rom : (s.touch l).rom = s.rom := rfl
@[simp] theorem State.touch_sheet : (s.touch l).sheet = s.sheet := rfl
@[simp] theorem State.touch_engineWait : (s.touch l).engineWait = s.engineWait := rfl
@[simp] theorem State.touch_draws : (s.touch l).draws = s.draws := rfl
@[simp] theorem State.touch_host : (s.touch l).host = s.host := rfl
end touch

section tick
variable (s : State)
@[simp] theorem State.tick_busyWord : s.tick.busyWord = s.busyWord := rfl
@[simp] theorem State.tick_tainted : s.tick.tainted = s.tainted := rfl
@[simp] theorem State.tick_err : s.tick.err = s.err := rfl
@[simp] theorem State.tick_irqStatus : s.tick.irqStatus = s.irqStatus := rfl
@[simp] theorem State.tick_irqEnable : s.tick.irqEnable = s.irqEnable := rfl
@[simp] theorem State.tick_romLen : s.tick.romLen = s.romLen := rfl
@[simp] theorem State.tick_format : s.tick.format = s.format := rfl
@[simp] theorem State.tick_chrOffset : s.tick.chrOffset = s.chrOffset := rfl
@[simp] theorem State.tick_chrLength : s.tick.chrLength = s.chrLength := rfl
@[simp] theorem State.tick_tileIndex : s.tick.tileIndex = s.tileIndex := rfl
@[simp] theorem State.tick_tile : s.tick.tile = s.tile := rfl
@[simp] theorem State.tick_pix : s.tick.pix = s.pix := rfl
@[simp] theorem State.tick_conv : s.tick.conv = s.conv := rfl
@[simp] theorem State.tick_sheetGroup : s.tick.sheetGroup = s.sheetGroup := rfl
@[simp] theorem State.tick_sheetTiles : s.tick.sheetTiles = s.sheetTiles := rfl
@[simp] theorem State.tick_rom : s.tick.rom = s.rom := rfl
@[simp] theorem State.tick_sheet : s.tick.sheet = s.sheet := rfl
@[simp] theorem State.tick_engineWait : s.tick.engineWait = s.engineWait - 1 := rfl
@[simp] theorem State.tick_draws : s.tick.draws = s.draws := rfl
@[simp] theorem State.tick_host : s.tick.host = s.host := rfl
end tick

section setData
variable (s : State) (v : Word)
@[simp] theorem State.setData_busyWord : (s.setData v).busyWord = s.busyWord := rfl
@[simp] theorem State.setData_tainted : (s.setData v).tainted = s.tainted := rfl
@[simp] theorem State.setData_err : (s.setData v).err = s.err := rfl
@[simp] theorem State.setData_irqStatus : (s.setData v).irqStatus = s.irqStatus := rfl
@[simp] theorem State.setData_irqEnable : (s.setData v).irqEnable = s.irqEnable := rfl
@[simp] theorem State.setData_romLen : (s.setData v).romLen = s.romLen := rfl
@[simp] theorem State.setData_format : (s.setData v).format = s.format := rfl
@[simp] theorem State.setData_chrOffset : (s.setData v).chrOffset = s.chrOffset := rfl
@[simp] theorem State.setData_chrLength : (s.setData v).chrLength = s.chrLength := rfl
@[simp] theorem State.setData_tileIndex : (s.setData v).tileIndex = s.tileIndex := rfl
@[simp] theorem State.setData_tile : (s.setData v).tile = s.tile := rfl
@[simp] theorem State.setData_pix : (s.setData v).pix = s.pix := rfl
@[simp] theorem State.setData_conv : (s.setData v).conv = s.conv := rfl
@[simp] theorem State.setData_sheetGroup : (s.setData v).sheetGroup = s.sheetGroup := rfl
@[simp] theorem State.setData_sheetTiles : (s.setData v).sheetTiles = s.sheetTiles := rfl
@[simp] theorem State.setData_rom : (s.setData v).rom = s.rom := rfl
@[simp] theorem State.setData_sheet : (s.setData v).sheet = s.sheet := rfl
@[simp] theorem State.setData_engineWait : (s.setData v).engineWait = s.engineWait := rfl
@[simp] theorem State.setData_draws : (s.setData v).draws = s.draws := rfl
@[simp] theorem State.setData_host : (s.setData v).host = { s.host with data := v } := rfl
end setData

section ackIrq
variable (s : State) (v : Word)
@[simp] theorem State.ackIrq_busyWord : (s.ackIrq v).busyWord = s.busyWord := rfl
@[simp] theorem State.ackIrq_tainted : (s.ackIrq v).tainted = s.tainted := rfl
@[simp] theorem State.ackIrq_err : (s.ackIrq v).err = s.err := rfl
@[simp] theorem State.ackIrq_irqStatus : (s.ackIrq v).irqStatus = s.irqStatus &&& ~~~(v.setWidth 3) := rfl
@[simp] theorem State.ackIrq_irqEnable : (s.ackIrq v).irqEnable = s.irqEnable := rfl
@[simp] theorem State.ackIrq_romLen : (s.ackIrq v).romLen = s.romLen := rfl
@[simp] theorem State.ackIrq_format : (s.ackIrq v).format = s.format := rfl
@[simp] theorem State.ackIrq_chrOffset : (s.ackIrq v).chrOffset = s.chrOffset := rfl
@[simp] theorem State.ackIrq_chrLength : (s.ackIrq v).chrLength = s.chrLength := rfl
@[simp] theorem State.ackIrq_tileIndex : (s.ackIrq v).tileIndex = s.tileIndex := rfl
@[simp] theorem State.ackIrq_tile : (s.ackIrq v).tile = s.tile := rfl
@[simp] theorem State.ackIrq_pix : (s.ackIrq v).pix = s.pix := rfl
@[simp] theorem State.ackIrq_conv : (s.ackIrq v).conv = s.conv := rfl
@[simp] theorem State.ackIrq_sheetGroup : (s.ackIrq v).sheetGroup = s.sheetGroup := rfl
@[simp] theorem State.ackIrq_sheetTiles : (s.ackIrq v).sheetTiles = s.sheetTiles := rfl
@[simp] theorem State.ackIrq_rom : (s.ackIrq v).rom = s.rom := rfl
@[simp] theorem State.ackIrq_sheet : (s.ackIrq v).sheet = s.sheet := rfl
@[simp] theorem State.ackIrq_engineWait : (s.ackIrq v).engineWait = s.engineWait := rfl
@[simp] theorem State.ackIrq_draws : (s.ackIrq v).draws = s.draws := rfl
@[simp] theorem State.ackIrq_host : (s.ackIrq v).host = s.host := rfl
end ackIrq

section setIrqEnable
variable (s : State) (v : Word)
@[simp] theorem State.setIrqEnable_busyWord : (s.setIrqEnable v).busyWord = s.busyWord := rfl
@[simp] theorem State.setIrqEnable_tainted : (s.setIrqEnable v).tainted = s.tainted := rfl
@[simp] theorem State.setIrqEnable_err : (s.setIrqEnable v).err = s.err := rfl
@[simp] theorem State.setIrqEnable_irqStatus : (s.setIrqEnable v).irqStatus = s.irqStatus := rfl
@[simp] theorem State.setIrqEnable_irqEnable : (s.setIrqEnable v).irqEnable = v.setWidth 3 := rfl
@[simp] theorem State.setIrqEnable_romLen : (s.setIrqEnable v).romLen = s.romLen := rfl
@[simp] theorem State.setIrqEnable_format : (s.setIrqEnable v).format = s.format := rfl
@[simp] theorem State.setIrqEnable_chrOffset : (s.setIrqEnable v).chrOffset = s.chrOffset := rfl
@[simp] theorem State.setIrqEnable_chrLength : (s.setIrqEnable v).chrLength = s.chrLength := rfl
@[simp] theorem State.setIrqEnable_tileIndex : (s.setIrqEnable v).tileIndex = s.tileIndex := rfl
@[simp] theorem State.setIrqEnable_tile : (s.setIrqEnable v).tile = s.tile := rfl
@[simp] theorem State.setIrqEnable_pix : (s.setIrqEnable v).pix = s.pix := rfl
@[simp] theorem State.setIrqEnable_conv : (s.setIrqEnable v).conv = s.conv := rfl
@[simp] theorem State.setIrqEnable_sheetGroup : (s.setIrqEnable v).sheetGroup = s.sheetGroup := rfl
@[simp] theorem State.setIrqEnable_sheetTiles : (s.setIrqEnable v).sheetTiles = s.sheetTiles := rfl
@[simp] theorem State.setIrqEnable_rom : (s.setIrqEnable v).rom = s.rom := rfl
@[simp] theorem State.setIrqEnable_sheet : (s.setIrqEnable v).sheet = s.sheet := rfl
@[simp] theorem State.setIrqEnable_engineWait : (s.setIrqEnable v).engineWait = s.engineWait := rfl
@[simp] theorem State.setIrqEnable_draws : (s.setIrqEnable v).draws = s.draws := rfl
@[simp] theorem State.setIrqEnable_host : (s.setIrqEnable v).host = s.host := rfl
end setIrqEnable

section setRomLen
variable (s : State) (v : Word)
@[simp] theorem State.setRomLen_busyWord : (s.setRomLen v).busyWord = s.busyWord := rfl
@[simp] theorem State.setRomLen_tainted : (s.setRomLen v).tainted = s.tainted := rfl
@[simp] theorem State.setRomLen_err : (s.setRomLen v).err = s.err := rfl
@[simp] theorem State.setRomLen_irqStatus : (s.setRomLen v).irqStatus = s.irqStatus := rfl
@[simp] theorem State.setRomLen_irqEnable : (s.setRomLen v).irqEnable = s.irqEnable := rfl
@[simp] theorem State.setRomLen_romLen : (s.setRomLen v).romLen = clampLen v := rfl
@[simp] theorem State.setRomLen_format : (s.setRomLen v).format = s.format := rfl
@[simp] theorem State.setRomLen_chrOffset : (s.setRomLen v).chrOffset = s.chrOffset := rfl
@[simp] theorem State.setRomLen_chrLength : (s.setRomLen v).chrLength = s.chrLength := rfl
@[simp] theorem State.setRomLen_tileIndex : (s.setRomLen v).tileIndex = s.tileIndex := rfl
@[simp] theorem State.setRomLen_tile : (s.setRomLen v).tile = s.tile := rfl
@[simp] theorem State.setRomLen_pix : (s.setRomLen v).pix = s.pix := rfl
@[simp] theorem State.setRomLen_conv : (s.setRomLen v).conv = s.conv := rfl
@[simp] theorem State.setRomLen_sheetGroup : (s.setRomLen v).sheetGroup = s.sheetGroup := rfl
@[simp] theorem State.setRomLen_sheetTiles : (s.setRomLen v).sheetTiles = s.sheetTiles := rfl
@[simp] theorem State.setRomLen_rom : (s.setRomLen v).rom = s.rom := rfl
@[simp] theorem State.setRomLen_sheet : (s.setRomLen v).sheet = s.sheet := rfl
@[simp] theorem State.setRomLen_engineWait : (s.setRomLen v).engineWait = s.engineWait := rfl
@[simp] theorem State.setRomLen_draws : (s.setRomLen v).draws = s.draws := rfl
@[simp] theorem State.setRomLen_host : (s.setRomLen v).host = s.host := rfl
end setRomLen

section setChrOffset
variable (s : State) (v : Word)
@[simp] theorem State.setChrOffset_busyWord : (s.setChrOffset v).busyWord = s.busyWord := rfl
@[simp] theorem State.setChrOffset_tainted : (s.setChrOffset v).tainted = s.tainted := rfl
@[simp] theorem State.setChrOffset_err : (s.setChrOffset v).err = s.err := rfl
@[simp] theorem State.setChrOffset_irqStatus : (s.setChrOffset v).irqStatus = s.irqStatus := rfl
@[simp] theorem State.setChrOffset_irqEnable : (s.setChrOffset v).irqEnable = s.irqEnable := rfl
@[simp] theorem State.setChrOffset_romLen : (s.setChrOffset v).romLen = s.romLen := rfl
@[simp] theorem State.setChrOffset_format : (s.setChrOffset v).format = s.format := rfl
@[simp] theorem State.setChrOffset_chrOffset : (s.setChrOffset v).chrOffset = v := rfl
@[simp] theorem State.setChrOffset_chrLength : (s.setChrOffset v).chrLength = s.chrLength := rfl
@[simp] theorem State.setChrOffset_tileIndex : (s.setChrOffset v).tileIndex = s.tileIndex := rfl
@[simp] theorem State.setChrOffset_tile : (s.setChrOffset v).tile = s.tile := rfl
@[simp] theorem State.setChrOffset_pix : (s.setChrOffset v).pix = s.pix := rfl
@[simp] theorem State.setChrOffset_conv : (s.setChrOffset v).conv = s.conv := rfl
@[simp] theorem State.setChrOffset_sheetGroup : (s.setChrOffset v).sheetGroup = s.sheetGroup := rfl
@[simp] theorem State.setChrOffset_sheetTiles : (s.setChrOffset v).sheetTiles = s.sheetTiles := rfl
@[simp] theorem State.setChrOffset_rom : (s.setChrOffset v).rom = s.rom := rfl
@[simp] theorem State.setChrOffset_sheet : (s.setChrOffset v).sheet = s.sheet := rfl
@[simp] theorem State.setChrOffset_engineWait : (s.setChrOffset v).engineWait = s.engineWait := rfl
@[simp] theorem State.setChrOffset_draws : (s.setChrOffset v).draws = s.draws := rfl
@[simp] theorem State.setChrOffset_host : (s.setChrOffset v).host = s.host := rfl
end setChrOffset

section setChrLength
variable (s : State) (v : Word)
@[simp] theorem State.setChrLength_busyWord : (s.setChrLength v).busyWord = s.busyWord := rfl
@[simp] theorem State.setChrLength_tainted : (s.setChrLength v).tainted = s.tainted := rfl
@[simp] theorem State.setChrLength_err : (s.setChrLength v).err = s.err := rfl
@[simp] theorem State.setChrLength_irqStatus : (s.setChrLength v).irqStatus = s.irqStatus := rfl
@[simp] theorem State.setChrLength_irqEnable : (s.setChrLength v).irqEnable = s.irqEnable := rfl
@[simp] theorem State.setChrLength_romLen : (s.setChrLength v).romLen = s.romLen := rfl
@[simp] theorem State.setChrLength_format : (s.setChrLength v).format = s.format := rfl
@[simp] theorem State.setChrLength_chrOffset : (s.setChrLength v).chrOffset = s.chrOffset := rfl
@[simp] theorem State.setChrLength_chrLength : (s.setChrLength v).chrLength = v := rfl
@[simp] theorem State.setChrLength_tileIndex : (s.setChrLength v).tileIndex = s.tileIndex := rfl
@[simp] theorem State.setChrLength_tile : (s.setChrLength v).tile = s.tile := rfl
@[simp] theorem State.setChrLength_pix : (s.setChrLength v).pix = s.pix := rfl
@[simp] theorem State.setChrLength_conv : (s.setChrLength v).conv = s.conv := rfl
@[simp] theorem State.setChrLength_sheetGroup : (s.setChrLength v).sheetGroup = s.sheetGroup := rfl
@[simp] theorem State.setChrLength_sheetTiles : (s.setChrLength v).sheetTiles = s.sheetTiles := rfl
@[simp] theorem State.setChrLength_rom : (s.setChrLength v).rom = s.rom := rfl
@[simp] theorem State.setChrLength_sheet : (s.setChrLength v).sheet = s.sheet := rfl
@[simp] theorem State.setChrLength_engineWait : (s.setChrLength v).engineWait = s.engineWait := rfl
@[simp] theorem State.setChrLength_draws : (s.setChrLength v).draws = s.draws := rfl
@[simp] theorem State.setChrLength_host : (s.setChrLength v).host = s.host := rfl
end setChrLength

section setRomByte
variable (s : State) (a : Nat) (v : Byte)
@[simp] theorem State.setRomByte_busyWord : (s.setRomByte a v).busyWord = s.busyWord := rfl
@[simp] theorem State.setRomByte_tainted : (s.setRomByte a v).tainted = s.tainted := rfl
@[simp] theorem State.setRomByte_err : (s.setRomByte a v).err = s.err := rfl
@[simp] theorem State.setRomByte_irqStatus : (s.setRomByte a v).irqStatus = s.irqStatus := rfl
@[simp] theorem State.setRomByte_irqEnable : (s.setRomByte a v).irqEnable = s.irqEnable := rfl
@[simp] theorem State.setRomByte_romLen : (s.setRomByte a v).romLen = s.romLen := rfl
@[simp] theorem State.setRomByte_format : (s.setRomByte a v).format = s.format := rfl
@[simp] theorem State.setRomByte_chrOffset : (s.setRomByte a v).chrOffset = s.chrOffset := rfl
@[simp] theorem State.setRomByte_chrLength : (s.setRomByte a v).chrLength = s.chrLength := rfl
@[simp] theorem State.setRomByte_tileIndex : (s.setRomByte a v).tileIndex = s.tileIndex := rfl
@[simp] theorem State.setRomByte_tile : (s.setRomByte a v).tile = s.tile := rfl
@[simp] theorem State.setRomByte_pix : (s.setRomByte a v).pix = s.pix := rfl
@[simp] theorem State.setRomByte_conv : (s.setRomByte a v).conv = s.conv := rfl
@[simp] theorem State.setRomByte_sheetGroup : (s.setRomByte a v).sheetGroup = s.sheetGroup := rfl
@[simp] theorem State.setRomByte_sheetTiles : (s.setRomByte a v).sheetTiles = s.sheetTiles := rfl
@[simp] theorem State.setRomByte_rom : (s.setRomByte a v).rom = s.rom.write a v := rfl
@[simp] theorem State.setRomByte_sheet : (s.setRomByte a v).sheet = s.sheet := rfl
@[simp] theorem State.setRomByte_engineWait : (s.setRomByte a v).engineWait = s.engineWait := rfl
@[simp] theorem State.setRomByte_draws : (s.setRomByte a v).draws = s.draws := rfl
@[simp] theorem State.setRomByte_host : (s.setRomByte a v).host = s.host := rfl
end setRomByte

section setProgram
variable (s : State) (p : List HostOp)
@[simp] theorem State.setProgram_busyWord : (s.setProgram p).busyWord = s.busyWord := rfl
@[simp] theorem State.setProgram_tainted : (s.setProgram p).tainted = s.tainted := rfl
@[simp] theorem State.setProgram_err : (s.setProgram p).err = s.err := rfl
@[simp] theorem State.setProgram_irqStatus : (s.setProgram p).irqStatus = s.irqStatus := rfl
@[simp] theorem State.setProgram_irqEnable : (s.setProgram p).irqEnable = s.irqEnable := rfl
@[simp] theorem State.setProgram_romLen : (s.setProgram p).romLen = s.romLen := rfl
@[simp] theorem State.setProgram_format : (s.setProgram p).format = s.format := rfl
@[simp] theorem State.setProgram_chrOffset : (s.setProgram p).chrOffset = s.chrOffset := rfl
@[simp] theorem State.setProgram_chrLength : (s.setProgram p).chrLength = s.chrLength := rfl
@[simp] theorem State.setProgram_tileIndex : (s.setProgram p).tileIndex = s.tileIndex := rfl
@[simp] theorem State.setProgram_tile : (s.setProgram p).tile = s.tile := rfl
@[simp] theorem State.setProgram_pix : (s.setProgram p).pix = s.pix := rfl
@[simp] theorem State.setProgram_conv : (s.setProgram p).conv = s.conv := rfl
@[simp] theorem State.setProgram_sheetGroup : (s.setProgram p).sheetGroup = s.sheetGroup := rfl
@[simp] theorem State.setProgram_sheetTiles : (s.setProgram p).sheetTiles = s.sheetTiles := rfl
@[simp] theorem State.setProgram_rom : (s.setProgram p).rom = s.rom := rfl
@[simp] theorem State.setProgram_sheet : (s.setProgram p).sheet = s.sheet := rfl
@[simp] theorem State.setProgram_engineWait : (s.setProgram p).engineWait = s.engineWait := rfl
@[simp] theorem State.setProgram_draws : (s.setProgram p).draws = s.draws := rfl
@[simp] theorem State.setProgram_host : (s.setProgram p).host = { s.host with program := p } := rfl
end setProgram

section setE
variable (s : State) (v : BitVec 4)
@[simp] theorem State.setE_busyWord : (s.setE v).busyWord = s.busyWord := rfl
@[simp] theorem State.setE_tainted : (s.setE v).tainted = s.tainted := rfl
@[simp] theorem State.setE_err : (s.setE v).err = s.err := rfl
@[simp] theorem State.setE_irqStatus : (s.setE v).irqStatus = s.irqStatus := rfl
@[simp] theorem State.setE_irqEnable : (s.setE v).irqEnable = s.irqEnable := rfl
@[simp] theorem State.setE_romLen : (s.setE v).romLen = s.romLen := rfl
@[simp] theorem State.setE_format : (s.setE v).format = s.format := rfl
@[simp] theorem State.setE_chrOffset : (s.setE v).chrOffset = s.chrOffset := rfl
@[simp] theorem State.setE_chrLength : (s.setE v).chrLength = s.chrLength := rfl
@[simp] theorem State.setE_tileIndex : (s.setE v).tileIndex = s.tileIndex := rfl
@[simp] theorem State.setE_tile : (s.setE v).tile = s.tile := rfl
@[simp] theorem State.setE_pix : (s.setE v).pix = s.pix := rfl
@[simp] theorem State.setE_conv : (s.setE v).conv = s.conv := rfl
@[simp] theorem State.setE_sheetGroup : (s.setE v).sheetGroup = s.sheetGroup := rfl
@[simp] theorem State.setE_sheetTiles : (s.setE v).sheetTiles = s.sheetTiles := rfl
@[simp] theorem State.setE_rom : (s.setE v).rom = s.rom := rfl
@[simp] theorem State.setE_sheet : (s.setE v).sheet = s.sheet := rfl
@[simp] theorem State.setE_engineWait : (s.setE v).engineWait = s.engineWait := rfl
@[simp] theorem State.setE_draws : (s.setE v).draws = s.draws := rfl
@[simp] theorem State.setE_host : (s.setE v).host = { s.host with e := v } := rfl
end setE

section emit
variable (s : State) (x : HostEvent)
@[simp] theorem State.emit_busyWord : (s.emit x).busyWord = s.busyWord := rfl
@[simp] theorem State.emit_tainted : (s.emit x).tainted = s.tainted := rfl
@[simp] theorem State.emit_err : (s.emit x).err = s.err := rfl
@[simp] theorem State.emit_irqStatus : (s.emit x).irqStatus = s.irqStatus := rfl
@[simp] theorem State.emit_irqEnable : (s.emit x).irqEnable = s.irqEnable := rfl
@[simp] theorem State.emit_romLen : (s.emit x).romLen = s.romLen := rfl
@[simp] theorem State.emit_format : (s.emit x).format = s.format := rfl
@[simp] theorem State.emit_chrOffset : (s.emit x).chrOffset = s.chrOffset := rfl
@[simp] theorem State.emit_chrLength : (s.emit x).chrLength = s.chrLength := rfl
@[simp] theorem State.emit_tileIndex : (s.emit x).tileIndex = s.tileIndex := rfl
@[simp] theorem State.emit_tile : (s.emit x).tile = s.tile := rfl
@[simp] theorem State.emit_pix : (s.emit x).pix = s.pix := rfl
@[simp] theorem State.emit_conv : (s.emit x).conv = s.conv := rfl
@[simp] theorem State.emit_sheetGroup : (s.emit x).sheetGroup = s.sheetGroup := rfl
@[simp] theorem State.emit_sheetTiles : (s.emit x).sheetTiles = s.sheetTiles := rfl
@[simp] theorem State.emit_rom : (s.emit x).rom = s.rom := rfl
@[simp] theorem State.emit_sheet : (s.emit x).sheet = s.sheet := rfl
@[simp] theorem State.emit_engineWait : (s.emit x).engineWait = s.engineWait := rfl
@[simp] theorem State.emit_draws : (s.emit x).draws = s.draws := rfl
@[simp] theorem State.emit_host : (s.emit x).host = { s.host with emitted := s.host.emitted ++ [x] } := rfl
end emit

section resetBlock
variable (s : State)
@[simp] theorem State.resetBlock_busyWord : s.resetBlock.busyWord = State.reset.busyWord := rfl
@[simp] theorem State.resetBlock_tainted : s.resetBlock.tainted = State.reset.tainted := rfl
@[simp] theorem State.resetBlock_err : s.resetBlock.err = State.reset.err := rfl
@[simp] theorem State.resetBlock_irqStatus : s.resetBlock.irqStatus = State.reset.irqStatus := rfl
@[simp] theorem State.resetBlock_irqEnable : s.resetBlock.irqEnable = State.reset.irqEnable := rfl
@[simp] theorem State.resetBlock_romLen : s.resetBlock.romLen = State.reset.romLen := rfl
@[simp] theorem State.resetBlock_format : s.resetBlock.format = State.reset.format := rfl
@[simp] theorem State.resetBlock_chrOffset : s.resetBlock.chrOffset = State.reset.chrOffset := rfl
@[simp] theorem State.resetBlock_chrLength : s.resetBlock.chrLength = State.reset.chrLength := rfl
@[simp] theorem State.resetBlock_tileIndex : s.resetBlock.tileIndex = State.reset.tileIndex := rfl
@[simp] theorem State.resetBlock_tile : s.resetBlock.tile = State.reset.tile := rfl
@[simp] theorem State.resetBlock_pix : s.resetBlock.pix = State.reset.pix := rfl
@[simp] theorem State.resetBlock_conv : s.resetBlock.conv = State.reset.conv := rfl
@[simp] theorem State.resetBlock_sheetGroup : s.resetBlock.sheetGroup = State.reset.sheetGroup := rfl
@[simp] theorem State.resetBlock_sheetTiles : s.resetBlock.sheetTiles = State.reset.sheetTiles := rfl
@[simp] theorem State.resetBlock_rom : s.resetBlock.rom = Memory.unknown s.draws := rfl
@[simp] theorem State.resetBlock_sheet : s.resetBlock.sheet = Memory.unknown s.draws := rfl
@[simp] theorem State.resetBlock_engineWait : s.resetBlock.engineWait = State.reset.engineWait := rfl
@[simp] theorem State.resetBlock_draws : s.resetBlock.draws = s.draws + 1 := rfl
@[simp] theorem State.resetBlock_host : s.resetBlock.host = s.host := rfl
end resetBlock

end Sys2Proof.Machine
end

