-- ==== Sys2Proof/Laws/Memory.lean ====
section
/-! SUPPORT. What a write does to a buffer: the read laws, and the canonical form, kept by every memory operation. -/

namespace Sys2Proof.Machine

theorem lookupCell_writeCell (m : List Host.Cell) (a b : Nat) (v : Byte) :
    lookupCell (writeCell m a v) b = if b = a then some v else lookupCell m b := by
  induction m with
  | nil => simp only [writeCell, lookupCell, eq_comm]
  | cons c m ih =>
    obtain ⟨k, w⟩ := c
    simp only [writeCell]
    split
    · simp only [lookupCell, eq_comm]
    · split
      · subst_vars
        simp only [lookupCell]
        grind
      · simp only [lookupCell, ih]
        grind

theorem mem_writeCell {m : List Host.Cell} {a : Nat} {v : Byte} {c : Host.Cell} (h : c ∈ writeCell m a v) :
    c = (a, v) ∨ c ∈ m := by
  induction m with
  | nil => simpa [writeCell] using h
  | cons d m ih =>
    obtain ⟨k, w⟩ := d
    simp only [writeCell] at h
    grind

/-- A write keeps the canonical form. -/
theorem Memory.write_wf {m : Memory} (h : m.wf) (a : Nat) (v : Byte) : (m.write a v).wf := by
  obtain ⟨cells, d⟩ := m
  simp only [Memory.wf, Memory.write] at h ⊢
  induction cells with
  | nil => simp [writeCell]
  | cons c cells ih =>
    obtain ⟨k, w⟩ := c
    simp only [List.pairwise_cons] at h
    simp only [writeCell]
    split
    · refine List.pairwise_cons.2 ⟨fun e he => ?_, List.pairwise_cons.2 h⟩
      rcases List.mem_cons.1 he with rfl | he
      · assumption
      · exact Nat.lt_trans ‹a < k› (h.1 e he)
    · split
      · subst_vars
        exact List.pairwise_cons.2 h
      · refine List.pairwise_cons.2 ⟨fun e he => ?_, ih h.2⟩
        rcases mem_writeCell he with rfl | he
        · simp only
          omega
        · exact h.1 e he

/-- A buffer of unknown bytes is in canonical form. -/
theorem Memory.unknown_wf (d : Nat) : (Memory.unknown d).wf := by simp [Memory.wf, Memory.unknown]

/-- In cells of rising addresses, the one at `a` is the one found there. -/
theorem lookupCell_of_mem {m : List Host.Cell} (h : m.Pairwise fun c d => c.1 < d.1) {a : Nat} {v : Byte}
    (hm : (a, v) ∈ m) : lookupCell m a = some v := by
  induction m with
  | nil => simp at hm
  | cons c m ih =>
    obtain ⟨k, w⟩ := c
    rw [List.pairwise_cons] at h
    rcases List.mem_cons.1 hm with he | hm
    · cases he
      simp [lookupCell]
    · have hk := h.1 _ hm
      simp only at hk
      rw [lookupCell, if_neg (by omega), ih h.2 hm]

theorem mem_of_lookupCell {m : List Host.Cell} {a : Nat} {v : Byte} (h : lookupCell m a = some v) : (a, v) ∈ m := by
  induction m with
  | nil => simp [lookupCell] at h
  | cons c m ih =>
    obtain ⟨k, w⟩ := c
    rw [lookupCell] at h
    split at h
    · simp_all
    · exact List.mem_cons_of_mem _ (ih h)

/-- ROM bytes after a host write of one. -/
theorem romByte_setRomByte (s : State) (a b : Nat) (v : Byte) :
    (s.setRomByte a v).romByte b = if b = a then v else s.romByte b := by
  simp only [State.romByte, State.setRomByte_rom, Memory.write, lookupCell_writeCell]
  split <;> simp

/-- SHEET bytes after a composed raster has been stored. -/
theorem sheetByte_setSheet (s : State) (m : Memory) (g : BitVec 28) (n : BitVec 9) (a : Nat) :
    (s.setSheet m g n).sheetByte a = (lookupCell m.cells a).getD (Config.anySheetByte m.draw a) := rfl

/-- ROM bytes depend on the ROM buffer alone. -/
theorem romByte_congr {s t : State} (h : t.rom = s.rom) (a : Nat) : t.romByte a = s.romByte a := by
  simp only [State.romByte, h]

/-- SHEET bytes depend on the SHEET buffer alone. -/
theorem sheetByte_congr {s t : State} (h : t.sheet = s.sheet) (a : Nat) : t.sheetByte a = s.sheetByte a := by
  simp only [State.sheetByte, h]

end Sys2Proof.Machine
end

