-- ==== Sys2Proof/Laws/Commands.lean ====
section
/-! SUPPORT. What a completion can be: `runCommand` unfolded once, the arithmetic of the derived registers, and one
lemma per command that lists everything its rule can answer. -/

namespace Sys2Proof.Machine

@[simp] theorem runCommand_untainted {s : State} (h : s.tainted = false) (rule : State → State × ErrCode)
    (anyResults : State → State) :
    runCommand rule anyResults s = .next ((rule s).1.conclude (rule s).2.code) := by
  simp [runCommand, h]

@[simp] theorem runCommand_tainted {s : State} (h : s.tainted = true) (rule : State → State × ErrCode)
    (anyResults : State → State) :
    runCommand rule anyResults s = .next ((anyResults s).drawn.conclude (Config.anyErr s.draws)) := by
  simp [runCommand, h]

/-- If a command answers `t`, it answered by its rule or, tainted, by any results. -/
theorem runCommand_next {rule : State → State × ErrCode} {anyResults : State → State} {s t : State}
    (h : runCommand rule anyResults s = .next t) :
    (s.tainted = false ∧ t = (rule s).1.conclude (rule s).2.code) ∨
    (s.tainted = true ∧ t = (anyResults s).drawn.conclude (Config.anyErr s.draws)) := by
  cases ht : s.tainted
  · rw [runCommand_untainted ht] at h
    exact .inl ⟨rfl, by simpa using h.symm⟩
  · rw [runCommand_tainted ht] at h
    exact .inr ⟨rfl, by simpa using h.symm⟩

theorem tileCount_eq (s : State) : s.tileCount = s.chrLength.toNat / 16 := by
  simp [State.tileCount, Nat.shiftRight_eq_div_pow]

theorem groupCount_eq (s : State) : s.groupCount = (s.tileCount + 255) / 256 := by
  simp [State.groupCount, Nat.shiftRight_eq_div_pow]

theorem tileCount_lt (s : State) : s.tileCount < 2 ^ 28 := by
  have := s.chrLength.isLt
  rw [tileCount_eq]
  omega

theorem groupCount_lt (s : State) : s.groupCount < 2 ^ 21 := by
  have := tileCount_lt s
  rw [groupCount_eq]
  omega

theorem groupTiles_le (s : State) (g : Nat) : s.groupTiles g ≤ 256 := by
  simp only [State.groupTiles, tilesPerSheet]
  omega

theorem locateOffset_le (b4 b6 : Byte) : locateOffset b4 b6 ≤ 4178448 := by
  have := b4.isLt
  simp only [locateOffset, headerSize, trainerSize]
  split <;> omega

theorem locateLength_le (b5 : Byte) : locateLength b5 ≤ 2088960 := by
  have := b5.isLt
  simp only [locateLength]
  omega

/-- Byte 6's trainer flag is its bit 2. -/
theorem trainerSize_eq (b6 : Byte) : trainerSize b6 = if b6.getLsbD 2 then 512 else 0 := by
  revert b6
  decide

/-- Header byte `k` is ROM byte `k`. -/
theorem header_getElem (s : State) (k : Nat) (h : k < 8) : s.header[k] = s.romByte k := by
  simp [State.header]

/-- Tile byte `j` of tile `t` is the ROM byte at its address. -/
theorem romTile_getElem (s : State) (t j : Nat) (h : j < 16) :
    (s.romTile t)[j] = s.romByte (s.chrOffset.toNat + 16 * t + j) := by
  simp [State.romTile, State.tileAddr, tileBytes]

/-- INSPECT's rule: one of two answers. -/
theorem inspectRule_cases (s : State) :
    (s.romLen.toNat < 16 ∧ inspectRule s = (s, .tooSmall)) ∨
    (16 ≤ s.romLen.toNat ∧ inspectRule s = (s.setFormat (inspectHeader s.header), .none)) := by
  by_cases h : s.romLen.toNat < 16
  · exact .inl ⟨h, by simp [inspectRule, State.tooShort, headerSize, h]⟩
  · exact .inr ⟨by omega, by simp [inspectRule, State.tooShort, headerSize, h]⟩

/-- LOCATE's rule: one of two answers. -/
theorem locateRule_cases (s : State) :
    (s.romLen.toNat < 16 ∧ locateRule s = (s, .tooSmall)) ∨
    (16 ≤ s.romLen.toNat ∧ locateRule s =
      (s.setRegion (BitVec.ofNat 32 (locateOffset (s.romByte 4) (s.romByte 6)))
        (BitVec.ofNat 32 (locateLength (s.romByte 5))), .none)) := by
  by_cases h : s.romLen.toNat < 16
  · exact .inl ⟨h, by simp [locateRule, State.tooShort, headerSize, h]⟩
  · exact .inr ⟨by omega, by simp [locateRule, State.tooShort, headerSize, h]⟩

/-- PREPARE's rule: one of four answers, in the order of its checks. -/
theorem prepareRule_cases (s : State) :
    let t := s.setFormat (formatBits (validInes s.header) (isNes20 s.header))
    let offset := locateOffset (s.romByte 4) (s.romByte 6)
    let length := locateLength (s.romByte 5)
    (s.romLen.toNat < 16 ∧ prepareRule s = (s, .tooSmall)) ∨
    (16 ≤ s.romLen.toNat ∧ validInes s.header = false ∧ prepareRule s = (t, .unsupportedFormat)) ∨
    (16 ≤ s.romLen.toNat ∧ validInes s.header = true ∧ s.romLen.toNat < offset + length ∧
      prepareRule s = (t, .tooSmall)) ∨
    (16 ≤ s.romLen.toNat ∧ validInes s.header = true ∧ offset + length ≤ s.romLen.toNat ∧
      prepareRule s = (t.setRegion (BitVec.ofNat 32 offset) (BitVec.ofNat 32 length), .none)) := by
  intro t offset length
  by_cases h : s.romLen.toNat < 16
  · exact .inl ⟨h, by simp [prepareRule, State.tooShort, headerSize, h]⟩
  have hl : 16 ≤ s.romLen.toNat := by omega
  have ht : prepareRule s = if validInes s.header then prepareRegion t else (t, .unsupportedFormat) := by
    simp [prepareRule, State.tooShort, headerSize, h, t]
  have hr : prepareRegion t = if s.romLen.toNat < offset + length then (t, .tooSmall)
      else (t.setRegion (BitVec.ofNat 32 offset) (BitVec.ofNat 32 length), .none) := by
    simp only [prepareRegion, State.endsPastRom, decide_eq_true_eq]
    rfl
  cases hv : validInes s.header
  · exact .inr (.inl ⟨hl, rfl, by rw [ht, hv]; rfl⟩)
  · by_cases hp : s.romLen.toNat < offset + length
    · exact .inr (.inr (.inl ⟨hl, rfl, hp, by rw [ht, hv, if_pos rfl, hr, if_pos hp]⟩))
    · exact .inr (.inr (.inr ⟨hl, rfl, by omega, by rw [ht, hv, if_pos rfl, hr, if_neg hp]⟩))

/-- FETCH's rule: one of three answers, in the order of its checks. -/
theorem fetchRule_cases (n : Nat) (s : State) :
    let regionEnd := s.chrOffset.toNat + s.chrLength.toNat
    (s.romLen.toNat < regionEnd ∧ fetchRule n s = (s, .tooSmall)) ∨
    (regionEnd ≤ s.romLen.toNat ∧ s.tileCount ≤ n ∧ fetchRule n s = (s, .tileRange)) ∨
    (regionEnd ≤ s.romLen.toNat ∧ n < s.tileCount ∧
      fetchRule n s = (s.setTile (s.romTile n) (BitVec.ofNat 28 n), .none)) := by
  intro regionEnd
  simp only [fetchRule, State.regionPastRom, State.endsPastRom, decide_eq_true_eq]
  split
  · exact .inl ⟨‹_›, rfl⟩
  · split
    · exact .inr (.inl ⟨by omega, ‹_›, rfl⟩)
    · exact .inr (.inr ⟨by omega, by omega, rfl⟩)

/-- COMPOSE's rule: one of three answers, in the order of its checks. -/
theorem composeRule_cases (g : Nat) (s : State) :
    let regionEnd := s.chrOffset.toNat + s.chrLength.toNat
    (s.romLen.toNat < regionEnd ∧ composeRule g s = (s, .tooSmall)) ∨
    (regionEnd ≤ s.romLen.toNat ∧ s.groupCount ≤ g ∧ composeRule g s = (s, .groupRange)) ∨
    (regionEnd ≤ s.romLen.toNat ∧ g < s.groupCount ∧
      composeRule g s =
        (s.setSheet { cells := composeCells s (256 * g) (s.groupTiles g), draw := 0 } (BitVec.ofNat 28 g)
          (BitVec.ofNat 9 (s.groupTiles g)), .none)) := by
  intro regionEnd
  simp only [composeRule, State.regionPastRom, State.endsPastRom, decide_eq_true_eq]
  split
  · exact .inl ⟨‹_›, rfl⟩
  · split
    · exact .inr (.inl ⟨by omega, ‹_›, rfl⟩)
    · exact .inr (.inr ⟨by omega, by omega, rfl⟩)

end Sys2Proof.Machine
end

