-- ==== Sys2Proof/Laws/Bus.lean ====
section
/-! SUPPORT. The host's accesses: the bus map decided once, ROM_CAP's bounds, what a read and a write of a target can
change. -/

namespace Sys2Proof.Machine

/-- ROM_CAP is at least its least value (R5). -/
theorem romCapMin_le_romCap : Config.romCapMin ≤ Config.romCap := by
  simp only [Config.romCap, Config.romCapMin, Config.romCapMax]
  omega

/-- ROM_CAP is at most its greatest value (R5). -/
theorem romCap_le_romCapMax : Config.romCap ≤ Config.romCapMax := by
  simp only [Config.romCap, Config.romCapMin, Config.romCapMax]
  omega

/-- The shortcut of `withinRomCap` changes nothing. -/
@[simp] theorem withinRomCap_eq_true (n : Nat) : Config.withinRomCap n = true ↔ n ≤ Config.romCap := by
  have := romCapMin_le_romCap
  simp only [Config.withinRomCap, Bool.or_eq_true, decide_eq_true_eq]
  omega

/-- ROM_LEN stores min(v, ROM_CAP) (R27). -/
theorem clampLen_toNat (v : Word) : (clampLen v).toNat = min v.toNat Config.romCap := by
  have := romCap_le_romCapMax
  simp only [Config.romCapMax] at this
  unfold clampLen
  split
  · rename_i h
    rw [withinRomCap_eq_true] at h
    omega
  · rename_i h
    rw [withinRomCap_eq_true] at h
    simp only [BitVec.toNat_ofNat]
    omega

/-- A register's offset is one of the window's words. -/
theorem Reg.offset_lt (r : Reg) : r.offset < 0x100 ∧ r.offset % 4 = 0 := by
  cases r with
  | tileData k => revert k; decide
  | _ => decide

theorem Reg.ofOffset_offset (r : Reg) : Reg.ofOffset r.offset = some r := by
  cases r with
  | tileData k => revert k; decide
  | _ => rfl

/-- `RD` and `WR` of a register reach it (R68). -/
@[simp] theorem busTarget_register (r : Reg) : busTarget 32 r.offset = some (.register r) := by
  simp [busTarget, r.offset_lt, Reg.ofOffset_offset]

/-- `RDB SHEET[a]` reaches SHEET byte `a` (R68). -/
theorem busTarget_sheet {a : Nat} (h : a < sheetBytes) : busTarget 8 (sheetBase + a) = some (.sheetByte a) := by
  simp only [sheetBytes] at h
  have h1 : ¬ sheetBase + a < 0x100 := by simp only [sheetBase]; omega
  have h2 : sheetBase ≤ sheetBase + a ∧ sheetBase + a < sheetBase + sheetBytes := by simp only [sheetBytes]; omega
  rw [busTarget, if_neg h1, if_pos h2, if_pos rfl, Nat.add_sub_cancel_left]

/-- `WRB ROM[a]` and `RDB ROM[a]` reach ROM byte `a` (R68). -/
theorem busTarget_rom {a : Nat} (h : a < Config.romCap) : busTarget 8 (romBase + a) = some (.romByte a) := by
  have h1 : ¬ romBase + a < 0x100 := by simp only [romBase]; omega
  have h2 : ¬ (sheetBase ≤ romBase + a ∧ romBase + a < sheetBase + sheetBytes) := by
    simp only [romBase, sheetBase, sheetBytes]; omega
  have h3 : romBase ≤ romBase + a ∧ Config.withinRomCap (romBase + a - romBase + 1) = true := by
    rw [withinRomCap_eq_true]; omega
  rw [busTarget, if_neg h1, if_neg h2, if_pos h3, if_pos rfl, Nat.add_sub_cancel_left]

/-- A host access to a ROM byte is to one that exists. -/
theorem busTarget_rom_lt {width addr a : Nat} (h : busTarget width addr = some (.romByte a)) : a < Config.romCap := by
  simp only [busTarget, withinRomCap_eq_true] at h
  split at h
  · split at h
    · cases hr : Reg.ofOffset addr <;> simp [hr] at h
    · simp at h
  · split at h
    · split at h <;> simp at h
    · split at h
      · split at h
        · simp only [Option.some.injEq, Target.romByte.injEq] at h
          omega
        · simp at h
      · simp at h

/-- With nothing in flight no read is a hazard (R187). -/
theorem hazardRead_idle {s : State} (h : s.busyWord = none) (g : Target) : s.hazardRead g = false := by
  simp only [State.hazardRead, Option.any_eq_false]
  intro l _
  simp [State.isResult, State.inflight, h]

/-- A read that is no hazard returns the location's value and changes only the host's variable. -/
theorem hostRead_value {s : State} {g : Target} (h : s.hazardRead g = false) :
    s.hostRead g = s.setData (s.readTarget g) := by
  simp [State.hostRead, h]

/-- A host read leaves the block as it is (R67). -/
theorem hostRead_sameBlock (s : State) (g : Target) : SameBlock s (s.hostRead g) := by
  unfold State.hostRead
  split <;> constructor <;> rfl

/-- A host read undoes no draw: it makes one where it is a hazard, none elsewhere (R187). -/
theorem hostRead_draws (s : State) (g : Target) : s.draws ≤ (s.hostRead g).draws := by
  unfold State.hostRead
  split
  · exact Nat.le_succ _
  · exact Nat.le_refl _

/-- A host read leaves the host's program, `e` and output as they are. -/
theorem hostRead_host (s : State) (g : Target) :
    (s.hostRead g).host.program = s.host.program ∧ (s.hostRead g).host.e = s.host.e ∧
      (s.hostRead g).host.emitted = s.host.emitted := by
  unfold State.hostRead
  split <;> exact ⟨rfl, rfl, rfl⟩

theorem busRead_target {width addr : Nat} {g : Target} (h : busTarget width addr = some g) (s : State) :
    busRead width addr s = .next (s.hostRead g) := by simp [busRead, h]

theorem busWrite_target {width addr : Nat} {g : Target} (h : busTarget width addr = some g) (v : Word) (s : State) :
    busWrite width addr v s = .next (s.hostWrite g v) := by simp [busWrite, h]

/-- A host write of a target: one of these effects on the block (R22 to R39, R66). -/
theorem hostWrite_cases (s : State) (g : Target) (v : Word) :
    s.hostWrite g v = s ∨ s.hostWrite g v = s.submit v ∨ s.hostWrite g v = s.ackIrq v ∨
    s.hostWrite g v = s.setIrqEnable v ∨ s.hostWrite g v = (s.touch .romLen).setRomLen v ∨
    s.hostWrite g v = (s.touch .chrOffset).setChrOffset v ∨ s.hostWrite g v = (s.touch .chrLength).setChrLength v ∨
    ∃ a, g = .romByte a ∧ s.hostWrite g v = (s.touch .romByte).setRomByte a (v.setWidth 8) := by
  cases g with
  | register r => cases r <;> simp [State.hostWrite, State.writeReg]
  | reserved => exact .inl rfl
  | sheetByte a => exact .inl rfl
  | romByte a => exact .inr (.inr (.inr (.inr (.inr (.inr (.inr ⟨a, rfl, rfl⟩))))))

end Sys2Proof.Machine
end

