-- ==== Sys2Proof/Laws/Encoding.lean ====
section
/-! SUPPORT. Concatenation and bit fields as arithmetic on natural numbers. -/

namespace Sys2Proof

/-- R8's concatenation: the more significant part times the weight of its last bit, plus the rest. -/
theorem toNat_append_eq {m n : Nat} (x : BitVec m) (y : BitVec n) : (x ++ y).toNat = x.toNat * 2 ^ n + y.toNat := by
  rw [BitVec.toNat_append, ← Nat.shiftLeft_add_eq_or_of_lt y.isLt, Nat.shiftLeft_eq]

/-- R8's field of a word. -/
theorem toNat_bits (w : Word) (lo n : Nat) : (bits w lo n).toNat = w.toNat / 2 ^ lo % 2 ^ n := by
  simp [bits, BitVec.extractLsb'_toNat, Nat.shiftRight_eq_div_pow]

/-- The must-be-0 check, on the field's number (R89). -/
theorem whenZero_eq {n : Nat} (field : BitVec n) (i : Instr) :
    whenZero field i = if field.toNat = 0 then .ok i else .error .mustBeZero := by
  have h : field = 0 ↔ field.toNat = 0 := by simp [BitVec.toNat_eq]
  by_cases hz : field.toNat = 0
  · rw [whenZero, if_pos (h.2 hz), if_pos hz]
  · rw [whenZero, if_neg (fun e => hz (h.1 e)), if_neg hz]

end Sys2Proof
end

