-- ==== Sys2Proof/Laws/PerInstr.lean ====
section
/-! SUPPORT. Per-command facts about the encoding: every command's word has a defined opcode (R80, R88). -/

namespace Sys2Proof.Laws.Opcode

/-- The word of `i` has an opcode from 0x1 to 0x7 in bits [31:28] (R80 to R88). -/
def Statement (i : Instr) : Prop := 1 ≤ (bits (encode i) 28 4).toNat ∧ (bits (encode i) 28 4).toNat ≤ 7

theorem inspect : Statement .inspect := by unfold Statement; decide

theorem locate : Statement .locate := by unfold Statement; decide

theorem prepare : Statement .prepare := by unfold Statement; decide

theorem fetch (t : Nat) : Statement (.fetch t) := by
  have := (BitVec.ofNat 28 t).isLt
  simp only [Statement, toNat_bits, encode, toNat_append_eq, BitVec.toNat_ofNat]
  omega

theorem pixel (x y : BitVec 3) : Statement (.pixel x y) := by
  have := x.isLt
  have := y.isLt
  simp only [Statement, toNat_bits, encode, toNat_append_eq, BitVec.toNat_ofNat]
  omega

theorem convert (lo hi : Byte) : Statement (.convert lo hi) := by
  have := lo.isLt
  have := hi.isLt
  simp only [Statement, toNat_bits, encode, toNat_append_eq, BitVec.toNat_ofNat]
  omega

theorem compose (g : Nat) : Statement (.compose g) := by
  have := (BitVec.ofNat 28 g).isLt
  simp only [Statement, toNat_bits, encode, toNat_append_eq, BitVec.toNat_ofNat]
  omega

end Sys2Proof.Laws.Opcode
end

