-- ==== Sys2Proof/Laws/Pixel.lean ====
section
/-! SUPPORT. The pixel function by bits of the plane bytes (R11), and the fields of a converted row (R124). -/

namespace Sys2Proof.Machine

/-- Shifting bit `n` down and masking it is that bit. -/
theorem shift_mask_toNat (b : Byte) (n : Nat) : ((b >>> n) &&& 1).toNat = (b.getLsbD n).toNat := by
  rw [BitVec.toNat_and, BitVec.toNat_ushiftRight]
  show b.toNat >>> n &&& 1 = (b.toNat.testBit n).toNat
  rw [Nat.and_one_is_mod, Nat.toNat_testBit, Nat.shiftRight_eq_div_pow]

/-- R11 by bits: bit 7 - x of the low plane, plus twice that of the high plane. -/
theorem pix_toNat (lo hi : Byte) (x : Nat) :
    (pix lo hi x).toNat = (lo.getLsbD (7 - x)).toNat + 2 * (hi.getLsbD (7 - x)).toNat := by
  simp only [pix, shift_mask_toNat]
  cases lo.getLsbD (7 - x) <;> cases hi.getLsbD (7 - x) <;> rfl

/-- Bits [2x+1:2x] of a converted row are pixel `x` (R124). -/
theorem convertRow_field (lo hi : Byte) (x : Nat) (hx : x < 8) :
    (convertRow lo hi).extractLsb' (2 * x) 2 = pix lo hi x := by
  apply BitVec.eq_of_toNat_eq
  have hb := fun k => (pix lo hi k).isLt
  have h0 := hb 0
  have h1 := hb 1
  have h2 := hb 2
  have h3 := hb 3
  have h4 := hb 4
  have h5 := hb 5
  have h6 := hb 6
  have h7 := hb 7
  rw [BitVec.extractLsb'_toNat, Nat.shiftRight_eq_div_pow]
  simp only [convertRow, toNat_append_eq]
  interval_cases x <;> omega

end Sys2Proof.Machine
end

