-- ==== Sys2Proof/Laws/Raster.lean ====
section
/-! SUPPORT. COMPOSE's raster: its cells are in canonical form, and the byte at each address is the one R144 gives. -/

namespace Sys2Proof.Machine

/-- The colour COMPOSE gives pixel column `x` of the tile in grid column `col` on raster row `y` (R142, R144). -/
def spanColour (s : State) (first n y col x : Nat) : Rgb :=
  if 16 * (y / 8) + col < n then
    palette (pix (s.romByte (s.tileAddr (first + (16 * (y / 8) + col)) (y % 8)))
      (s.romByte (s.tileAddr (first + (16 * (y / 8) + col)) (y % 8 + 8))) x)
  else black

theorem composeSpan_eq (s : State) (first n y col : Nat) :
    composeSpan s first n y col = tileRowCells col y (spanColour s first n y col) := by
  simp only [composeSpan, tileRowCells, spanColour]
  split <;> rfl

theorem mem_tileRowCells {col y : Nat} {colour : Nat → Rgb} {e : Host.Cell} :
    e ∈ tileRowCells col y colour ↔
      ∃ x, x < 8 ∧ ∃ c, c < 3 ∧ e = (sheetAddr (8 * col + x) y c, (colour x).channel c) := by
  simp only [tileRowCells, pixelCells, List.mem_flatMap, List.mem_range, List.mem_cons, List.not_mem_nil, or_false]
  constructor
  · rintro ⟨x, hx, h | h | h⟩
    · exact ⟨x, hx, 0, by omega, h⟩
    · exact ⟨x, hx, 1, by omega, h⟩
    · exact ⟨x, hx, 2, by omega, h⟩
  · rintro ⟨x, hx, c, hc, rfl⟩
    obtain rfl | rfl | rfl : c = 0 ∨ c = 1 ∨ c = 2 := by omega
    · exact ⟨x, hx, .inl rfl⟩
    · exact ⟨x, hx, .inr (.inl rfl)⟩
    · exact ⟨x, hx, .inr (.inr rfl)⟩

theorem tileRowCells_wf (col y : Nat) (colour : Nat → Rgb) :
    (tileRowCells col y colour).Pairwise fun c d => c.1 < d.1 := by
  refine List.pairwise_flatMap.2 ⟨fun x _ => ?_, List.pairwise_lt_range.imp ?_⟩
  · simp [pixelCells, sheetAddr]
  · intro x x' hx e he e' he'
    simp only [pixelCells, List.mem_cons, List.not_mem_nil, or_false] at he he'
    rcases he with rfl | rfl | rfl <;> rcases he' with rfl | rfl | rfl <;> simp only [sheetAddr, sheetSide] <;> omega

/-- The raster's cells, and what each holds. -/
theorem mem_composeCells {s : State} {first n : Nat} {e : Host.Cell} :
    e ∈ composeCells s first n ↔
      ∃ y, y < 128 ∧ ∃ col, col < 16 ∧ ∃ x, x < 8 ∧ ∃ c, c < 3 ∧
        e = (sheetAddr (8 * col + x) y c, (spanColour s first n y col x).channel c) := by
  simp only [composeCells, composeSpan_eq, List.mem_flatMap, List.mem_range, mem_tileRowCells, sheetSide]

/-- The raster is in canonical form. -/
theorem composeCells_wf (s : State) (first n : Nat) :
    (composeCells s first n).Pairwise fun c d => c.1 < d.1 := by
  refine List.pairwise_flatMap.2 ⟨fun y _ => List.pairwise_flatMap.2 ⟨fun col _ => ?_, ?_⟩, ?_⟩
  · rw [composeSpan_eq]
    exact tileRowCells_wf ..
  · refine List.pairwise_lt_range.imp ?_
    intro col col' hc e he e' he'
    rw [composeSpan_eq, mem_tileRowCells] at he he'
    obtain ⟨x, hx, c, hc, rfl⟩ := he
    obtain ⟨x', hx', c', hc', rfl⟩ := he'
    simp only [sheetAddr]
    omega
  · refine List.pairwise_lt_range.imp ?_
    intro y y' hy e he e' he'
    simp only [composeSpan_eq, List.mem_flatMap, List.mem_range, mem_tileRowCells] at he he'
    obtain ⟨col, hcol, x, hx, c, hc, rfl⟩ := he
    obtain ⟨col', hcol', x', hx', c', hc', rfl⟩ := he'
    simp only [sheetAddr, sheetSide]
    omega

/-- The raster holds a byte for each SHEET address: that of its pixel and channel. -/
theorem lookupCell_composeCells (s : State) (first n x y c : Nat) (hx : x < 128) (hy : y < 128) (hc : c < 3) :
    lookupCell (composeCells s first n) (sheetAddr x y c) =
      some ((spanColour s first n y (x / 8) (x % 8)).channel c) := by
  refine lookupCell_of_mem (composeCells_wf ..) (mem_composeCells.2 ⟨y, hy, x / 8, by omega, x % 8, by omega, c, hc, ?_⟩)
  rw [Nat.div_add_mod]

/-- The raster has no address outside the SHEET buffer. -/
theorem composeCells_bound {s : State} {first n : Nat} {e : Host.Cell} (h : e ∈ composeCells s first n) :
    e.1 < sheetBytes := by
  obtain ⟨y, hy, col, hcol, x, hx, c, hc, rfl⟩ := mem_composeCells.1 h
  simp only [sheetAddr, sheetSide, sheetBytes]
  omega

end Sys2Proof.Machine
end

