-- ==== Sys2Proof/Laws/Step.lean ====
section
/-! SUPPORT. What a step can be: the host's step taken apart once, STATUS as WAIT reads it, and a run one step at a
time. -/

namespace Sys2Proof.Machine

/-- The bits a completion adds to IRQ_STATUS, as numbers (R165). -/
theorem completionBits_or (p : BitVec 3) (code : BitVec 4) :
    p ||| completionBits code = p ||| if code = 0 then 1 else 3 := by
  unfold completionBits
  split <;> rfl

theorem SameBlock.trans {s t u : State} (h : SameBlock s t) (k : SameBlock t u) : SameBlock s u :=
  ⟨k.1.trans h.1, k.2.trans h.2, k.3.trans h.3, k.4.trans h.4, k.5.trans h.5, k.6.trans h.6, k.7.trans h.7,
    k.8.trans h.8, k.9.trans h.9, k.10.trans h.10, k.11.trans h.11, k.12.trans h.12, k.13.trans h.13,
    k.14.trans h.14, k.15.trans h.15, k.16.trans h.16, k.17.trans h.17⟩

theorem setProgram_sameBlock (s : State) (p : List HostOp) : SameBlock s (s.setProgram p) := by
  constructor <;> rfl

/-- A run goes on from the state its first step answers. -/
theorem run_next (M : Host.Core) {k : Nat} {s t : M.State} (h : M.step s = .next t) :
    Host.Core.run M (k + 1) s = Host.Core.run M k t := by
  simp only [Host.Core.run, h]

/-- `run_next` for this machine. -/
theorem run_succ {k : Nat} {s t : State} (h : step s = .next t) :
    Host.Core.run core (k + 1) s = Host.Core.run core k t := run_next core h

/-- If the host's step answers `t`, the host had nothing to do, or its next action was a read, a write or a reset, or
the block is as it was and no draw is undone. -/
theorem hostStep_cases {s t : State} (h : hostStep s = .next t) :
    t = s ∨ ∃ op rest, s.host.program = op :: rest ∧
      ((∃ w a g, op = .read w a ∧ busTarget w a = some g ∧ t = (s.setProgram rest).hostRead g) ∨
       (∃ w a v g, op = .write w a v ∧ busTarget w a = some g ∧ t = (s.setProgram rest).hostWrite g v) ∨
       (op = .reset ∧ t = (s.setProgram rest).resetBlock) ∨
       (SameBlock s t ∧ s.draws ≤ t.draws)) := by
  unfold hostStep at h
  split at h
  · exact .inl (by simpa using h.symm)
  · rename_i op rest hp
    refine .inr ⟨op, rest, hp, ?_⟩
    cases op with
    | write w a v =>
      simp only [runHostOp, busWrite] at h
      split at h
      · exact .inr (.inl ⟨w, a, v, _, rfl, ‹_›, by simpa using h.symm⟩)
      · cases h
    | read w a =>
      simp only [runHostOp, busRead] at h
      split at h
      · exact .inl ⟨w, a, _, rfl, ‹_›, by simpa using h.symm⟩
      · cases h
    | reset => exact .inr (.inr (.inl ⟨rfl, by simpa [runHostOp] using h.symm⟩))
    | wait =>
      refine .inr (.inr (.inr ?_))
      simp only [runHostOp, Host.Outcome.next.injEq] at h
      subst h
      have := setProgram_sameBlock s rest |>.trans (hostRead_sameBlock (s.setProgram rest) (.register .status))
      have draws := hostRead_draws (s.setProgram rest) (.register .status)
      simp only [hostWait]
      split <;> exact ⟨this.trans (by constructor <;> rfl), draws⟩
    | waitIrq =>
      refine .inr (.inr (.inr ?_))
      simp only [runHostOp, Host.Outcome.next.injEq] at h
      subst h
      unfold hostWaitIrq
      split <;> exact ⟨by constructor <;> rfl, Nat.le_refl _⟩
    | exportImage p b =>
      refine .inr (.inr (.inr ?_))
      simp only [runHostOp, Host.Outcome.next.injEq] at h
      subst h
      exact ⟨by constructor <;> rfl, Nat.le_refl _⟩
    | exportVerdict p =>
      refine .inr (.inr (.inr ?_))
      simp only [runHostOp, Host.Outcome.next.injEq] at h
      subst h
      have := setProgram_sameBlock s rest |>.trans (hostRead_sameBlock (s.setProgram rest) (.register .groupCount))
      have draws := hostRead_draws (s.setProgram rest) (.register .groupCount)
      unfold exportVerdict
      split
      · exact ⟨by constructor <;> rfl, Nat.le_refl _⟩
      · exact ⟨this.trans (by constructor <;> rfl), draws⟩
    | exportGroup p g n =>
      refine .inr (.inr (.inr ?_))
      simp only [runHostOp, Host.Outcome.next.injEq] at h
      subst h
      unfold exportGroup
      split <;> exact ⟨by constructor <;> rfl, Nat.le_refl _⟩
    | exportEmit p g =>
      refine .inr (.inr (.inr ?_))
      simp only [runHostOp, Host.Outcome.next.injEq] at h
      subst h
      unfold exportEmit
      split
      · exact ⟨by constructor <;> rfl, Nat.le_succ _⟩
      · exact ⟨by constructor <;> rfl, Nat.le_refl _⟩

/-- STATUS bit 0 is BUSY (R24). -/
theorem status_bit0 (s : State) : (s.readReg .status).getLsbD 0 = s.busy := by
  simp only [State.readReg, BitVec.getLsbD_append]
  cases s.busy <;> rfl

/-- STATUS bits [11:8] are ERR (R24). -/
theorem status_err (s : State) : (s.readReg .status).extractLsb' 8 4 = s.err := by
  apply BitVec.eq_of_toNat_eq
  simp only [State.readReg, BitVec.extractLsb'_toNat, toNat_append_eq, Nat.shiftRight_eq_div_pow, BitVec.toNat_ofNat]
  have := s.err.isLt
  cases s.busy <;> simp <;> omega

/-- STATUS is never a hazard to read (R187). -/
theorem hazard_status (s : State) : s.hazardRead (.register .status) = false := rfl

/-- WAIT ends at its first poll where nothing is in flight (R94). -/
theorem wait_idle {s : State} {rest} (hb : s.busyWord = none) (hp : s.host.program = .wait :: rest) :
    step s = .next (((s.setProgram rest).setData (s.readReg .status)).setE s.err) := by
  simp only [step, hb, hostStep, hp, runHostOp, hostWait]
  rw [status_bit0, status_err, hostRead_value (hazard_status _)]
  simp [State.busy, hb]
  rfl

end Sys2Proof.Machine
end

