-- ==== Sys2Proof/Tests/Slice0.lean ====
section
/-! SUPPORT. Tests of one step each, their expected values from 95_test_vectors; and, for each obligation with
hypotheses, a theorem that shows states and operands that meet them. -/

namespace Sys2Proof.Tests

open Sys2Proof.Machine

/-! The states the tests start from. -/

/-- The cells of `bytes` from address `a` on. -/
def cellsFrom : Nat → List Byte → List Host.Cell
  | _, [] => []
  | a, b :: rest => (a, b) :: cellsFrom (a + 1) rest

/-- After reset, with ROM_LEN = `len` and `bytes` in the ROM from address `a` on. -/
def loaded (len : Word) (a : Nat) (bytes : List Byte) : State :=
  { State.reset with romLen := len, rom := { cells := cellsFrom a bytes, draw := 0 } }

/-- Header bytes 0 to 7 with the magic, then bytes 4 to 7 as given, in an image of `len` bytes. -/
def image (len : Word) (b4 b5 b6 b7 : Byte) : State := loaded len 0 [0x4E, 0x45, 0x53, 0x1A, b4, b5, b6, b7]

/-- `s` with the CHR region at `offset`, of `length` bytes. -/
def region (s : State) (offset length : Word) : State := { s with chrOffset := offset, chrLength := length }

/-- The 16 bytes of 95 §2.5's second tile. -/
def half : List Byte :=
  [0x41, 0xC2, 0x44, 0x48, 0x10, 0x20, 0x40, 0x80, 0x01, 0x02, 0x04, 0x08, 0x16, 0x21, 0x42, 0x87]

/-- The state after reset with that tile in the tile buffer. -/
def halfFetched : State := { State.reset with tile := #v[0x41, 0xC2, 0x44, 0x48, 0x10, 0x20, 0x40, 0x80, 0x01, 0x02,
    0x04, 0x08, 0x16, 0x21, 0x42, 0x87] }

/-- `s` with the word `w` in flight and `k` host steps left before its completion. -/
def busyWith (s : State) (w : Word) (k : Nat) : State := { s with busyWord := some w, engineWait := k }

/-- The answer is a next state with the property `p`. -/
def answers (r : Host.Outcome State Fault Refusal) (p : State → Bool) : Bool :=
  match r with
  | .next t => p t
  | .fault _ => false
  | .refused _ => false

/-- The step that completes the word `w` in the state `s` gives a next state with the property `p`. -/
def completes (w : Nat) (s : State) (p : State → Bool) : Bool := answers (step (s.withFetchWord 32 w)) p

/-! WellFormed refuses what no word encodes (R91). -/

theorem test_wellFormed_fetch : (Instr.fetch (2 ^ 28)).wellFormed = false ∧
    (Instr.fetch (2 ^ 28 - 1)).wellFormed = true := by decide
theorem test_wellFormed_compose : (Instr.compose (2 ^ 28)).wellFormed = false ∧
    (Instr.compose (2 ^ 28 - 1)).wellFormed = true := by decide

/-! Decode (95 §2.1, R81 to R90). -/

theorem test_decode_inspect : decode 0x10000000 = .ok .inspect ∧ decode 0x10000001 = .error .mustBeZero ∧
    decode 0x18000000 = .error .mustBeZero := by decide
theorem test_decode_locate : decode 0x20000000 = .ok .locate ∧ decode 0x20000001 = .error .mustBeZero := by decide
theorem test_decode_prepare : decode 0x30000000 = .ok .prepare ∧ decode 0x38000000 = .error .mustBeZero := by decide
theorem test_decode_fetch : decode 0x4FFFFFFF = .ok (.fetch 0x0FFFFFFF) ∧ decode 0x40000100 = .ok (.fetch 256)
    := by decide
theorem test_decode_pixel : decode 0x50000025 = .ok (.pixel 5 4) ∧ decode 0x50000007 = .ok (.pixel 7 0) ∧
    decode 0x50000040 = .error .mustBeZero := by decide
theorem test_decode_convert : decode 0x60008780 = .ok (.convert 0x80 0x87) ∧
    decode 0x60010000 = .error .mustBeZero := by decide
theorem test_decode_compose : decode 0x70000001 = .ok (.compose 1) ∧
    decode 0x7FFFFFFF = .ok (.compose 0x0FFFFFFF) := by decide
theorem test_decode_reserved : decode 0x00000000 = .error .reservedOpcode ∧
    decode 0x80000000 = .error .reservedOpcode ∧ decode 0xF0000000 = .error .reservedOpcode := by decide
theorem test_encode : encode (.pixel 5 4) = 0x50000025 ∧ encode (.convert 0x80 0x87) = 0x60008780 := by decide
theorem test_decodeTableWord : decodeTableWord 32 0x50000025 = some (.pixel 5 4) ∧
    decodeTableWord 32 0x80000000 = none := by decide

/-! The commands (95 §2.2 to §2.8). -/

theorem test_inspect_ignores_high_bits : completes 0x10000000 (image 16 0 0 0 0xF8) (fun t => t.err == 0 &&
    t.format == 3 && t.irqStatus == 1) = true := by decide
theorem test_inspect_both_bits_set : completes 0x10000000 (image 16 0 0 0 0x0C) (fun t => t.err == 0 &&
    t.format == 1) = true := by decide
theorem test_locate_trainer : completes 0x20000000 (image 16 2 1 4 0) (fun t => t.chrOffset == 33296 &&
    t.chrLength == 8192 && t.groupCount == 2) = true := by decide
theorem test_locate_largest : completes 0x20000000 (image 16 0xFF 0xFF 4 0) (fun t => t.chrOffset == 4178448 &&
    t.chrLength == 2088960) = true := by decide
theorem test_prepare_region_short : completes 0x30000000 (image 24591 1 1 0 0) (fun t => t.err == 1 &&
    t.format == 1 && t.chrOffset == 0) = true := by decide
theorem test_prepare_nes20 : completes 0x30000000 (image 41488 2 1 4 8) (fun t => t.err == 0 && t.format == 3 &&
    t.chrOffset == 33296 && t.chrLength == 8192) = true := by decide
theorem test_fetch_bytes : completes 0x40000001 (region (loaded 8208 32 half) 16 8192) (fun t => t.err == 0 &&
    t.tileIndex == 1 && t.tileData 0 == 0x4844C241 && t.tileData 3 == 0x87422116) = true := by decide
theorem test_fetch_remainder : completes 0x40000101 (region (loaded 4143 0 []) 16 4127) (fun t => t.err == 4 &&
    t.irqStatus == 3) = true := by decide
theorem test_pixel_row4 : completes 0x50000025 halfFetched (fun t => t.err == 0 && t.pix == 2) = true := by decide
theorem test_pixel_row7 : completes 0x50000038 halfFetched (fun t => t.pix == 3) = true := by decide
theorem test_convert_low_byte : completes 0x60000141 State.reset (fun t => t.err == 0 &&
    t.conv == 0xC004) = true := by decide
theorem test_convert_row7 : completes 0x60008780 State.reset (fun t => t.conv == 0xA803) = true := by decide
theorem test_compose_last_group :
    completes 0x70000001 (region (loaded 4143 4112 half) 16 4127) (fun t => t.err == 0 && t.sheetGroup == 1 &&
    t.sheetTiles == 1 && t.sheetByte 21 == 0xFF && t.sheetByte 24 == 0) = true := by decide +kernel
theorem test_compose_short : completes 0x70000000 (region (loaded 4142 0 []) 16 4127) (fun t => t.err == 1 &&
    t.sheetTiles == 0) = true := by decide

/-! The host's bus, the interrupts and the reset (95 §2.9). -/

theorem test_refused : busRead 32 0x10000 State.reset = .refused .hostBusError ∧
    busRead 8 1 State.reset = .refused .hostBusError := by exact ⟨rfl, rfl⟩
theorem test_acknowledge :
    answers (busWrite 32 0x08 2 { State.reset with irqStatus := 7, irqEnable := 2 })
      (fun t => t.irqStatus == 5 && !t.irq) = true := by decide
theorem test_overrun :
    answers (busWrite 32 0x00 0x10000000 (busyWith State.reset 0x70000000 3)) (fun t => t.irqStatus == 4 &&
    t.busyWord == some 0x70000000) = true := by decide
theorem test_tainted : answers (busWrite 8 0x1000064 5 (busyWith State.reset 0x70000000 3)) (·.tainted) = true ∧
    answers (busWrite 8 0x1000064 5 (busyWith State.reset 0x600000FF 3)) (!·.tainted) = true := by decide
theorem test_reset_abandons :
    answers (runHostOp .reset (busyWith { State.reset with irqStatus := 7, romLen := 16 } 0x70000000 3))
      (fun t => t.busyWord == none && t.irqStatus == 0 && t.romLen == 0) = true
    := by decide
theorem test_colours : (palette 2).channel 0 = 0xA9 ∧ sheetAddr 10 11 0 = 4254 := by decide

/-! The hypotheses of the obligations are met: one theorem for each obligation that has any, at the boundaries of its
clauses. -/

/-- The state after reset with the word `w` in flight has the invariant. -/
theorem inv_withFetchWord (w : Nat) : (State.reset.withFetchWord 32 w).Inv where
  romWf := List.Pairwise.nil
  sheetWf := List.Pairwise.nil
  romBound := nofun
  sheetBound := nofun
  romLen := Nat.zero_le _
  busyErr := fun _ => rfl
  romDraw := Nat.zero_lt_one
  sheetDraw := Nat.zero_lt_one
  taintedInput := nofun

/-- Every command answers a next state. -/
theorem exec_answers (i : Instr) (s : State) : ∃ t, exec i s = .next t := by
  have answer : ∀ rule anyResults, ∃ t, runCommand rule anyResults s = .next t := by
    intro rule anyResults
    unfold runCommand
    split <;> exact ⟨_, rfl⟩
  cases i <;> exact answer _ _

theorem witness_decodeOfEncode : ∀ i ∈ [Instr.inspect, .locate, .prepare, .fetch (2 ^ 28 - 1), .pixel 7 7,
    .convert 0xFF 0xFF, .compose (2 ^ 28 - 1)], i.wellFormed = true := by decide

theorem witness_encodeOfDecode : decode 0x5000003F = .ok (.pixel 7 7) := by decide

theorem witness_decodeByFields :
    [0x00000000#32, 0x1FFFFFFF, 0x20000000, 0x3FFFFFFF, 0x40000000, 0x5000003F, 0x6000FFFF, 0x7FFFFFFF, 0x80000000,
      0xFFFFFFFF].map (·.toNat / 2 ^ 28) = [0x0, 0x1, 0x2, 0x3, 0x4, 0x5, 0x6, 0x7, 0x8, 0xF] := by decide

theorem witness_illegalWordCompletes : ∀ w ∈ [0x00000000, 0x0FFFFFFF, 0x80000000, 0xFFFFFFFF, 0x10000001, 0x28000000,
    0x3FFFFFFF, 0x50000040, 0x60010000],
    let s := State.reset.withFetchWord 32 w
    s.Inv ∧ s.busyWord = some (BitVec.ofNat 32 w) ∧
    (w / 2 ^ 28 = 0 ∨ 8 ≤ w / 2 ^ 28 ∨
      ((w / 2 ^ 28 = 1 ∨ w / 2 ^ 28 = 2 ∨ w / 2 ^ 28 = 3) ∧ w % 2 ^ 28 ≠ 0) ∨
      (w / 2 ^ 28 = 5 ∧ 2 ^ 6 ≤ w % 2 ^ 28) ∨ (w / 2 ^ 28 = 6 ∧ 2 ^ 16 ≤ w % 2 ^ 28)) := by
  intro w hw
  refine ⟨inv_withFetchWord w, ?_⟩
  revert w hw
  decide

theorem witness_stepRunsDecodedCommand :
    (busyWith State.reset 0x10000000 0).busyWord = some 0x10000000 ∧
    (busyWith State.reset 0x10000000 0).engineWait = 0 ∧
    decode 0x10000000 = .ok .inspect ∧ (busyWith State.reset 0x10000000 1).engineWait ≠ 0 ∧
    State.reset.busyWord = none := by decide

theorem witness_cmdWrite : State.reset.busyWord = none ∧
    (busyWith State.reset 0x10000000 2).busyWord = some 0x10000000 := by
  decide

theorem witness_everyCommandCompletes : State.reset.tainted = false := by decide

/-- Every command has a next state, so the frame speaks of all seven. -/
theorem witness_commandFrame : ∀ i : Instr, ∃ t, exec i (region (loaded 32 16 half) 16 16) = .next t := fun i =>
  exec_answers i _

theorem witness_failedCommand : ∀ i ∈ [Instr.inspect, .locate, .prepare, .fetch 0, .compose 0],
    State.reset.tainted = false ∧ answers (exec i State.reset) (·.err != 0) = true := by decide

/-- A completion, and a host step while the word stays in flight. -/
theorem witness_wordInFlight : answers (step (busyWith State.reset 0x10000000 0)) (·.busyWord == none) = true ∧
    answers (step (busyWith State.reset 0x10000000 1)) (·.busyWord == some 0x10000000) = true := by decide

theorem witness_engineCompletesInTime : (busyWith State.reset 0x10000000 2).busyWord = some 0x10000000 ∧
    (busyWith State.reset 0x10000000 2).host.program = [] := by decide

theorem witness_waitTerminates : (busyWith (State.reset.setProgram [.wait]) 0x10000000 2).busyWord = some 0x10000000 ∧
    (busyWith (State.reset.setProgram [.wait]) 0x10000000 2).host.program = [.wait] := by decide

theorem witness_stepKeepsInv : (State.reset.withFetchWord 32 0x60000001).Inv ∧
    answers (step (State.reset.withFetchWord 32 0x60000001)) (·.conv == 0x4000) = true :=
  ⟨inv_withFetchWord _, by decide⟩

theorem witness_nes20 : (image 16 0 0 0 8).tainted = false ∧ (image 16 0 0 0 8).FormatOk ∧
    completes 0x10000000 (image 16 0 0 0 8) (·.format == 3) = true := ⟨rfl, nofun, by decide⟩

/-- A COMPOSE that succeeds and one that fails. -/
theorem witness_onlyComposeWritesSheet : (region (loaded 32 16 half) 16 16).tainted = false ∧
    answers (exec (.compose 0) (region (loaded 32 16 half) 16 16)) (·.err == 0) = true ∧
    answers (exec (.compose 1) (region (loaded 32 16 half) 16 16)) (·.err == 5) = true := by decide

/-- Another value of byte 32, just past ROM_LEN = 32. -/
theorem witness_bytesPastRomLen : (loaded 32 0 (half ++ half ++ [1])).tainted = false ∧
    (∀ a, a < 32 → (loaded 32 0 (half ++ half ++ [2])).romByte a = (loaded 32 0 (half ++ half ++ [1])).romByte a) ∧
    (loaded 32 0 (half ++ half ++ [2])).romByte 32 ≠ (loaded 32 0 (half ++ half ++ [1])).romByte 32 ∧
    ∃ t, exec .locate (loaded 32 0 (half ++ half ++ [1])) = .next t := ⟨rfl, by decide, by decide, exec_answers _ _⟩

/-- Two images that differ in bytes 4 to 6 and in the other bits of byte 7. -/
theorem witness_inspectReads : (image 16 1 2 3 0x08).tainted = false ∧
    (∀ a, a < 4 → (image 16 9 8 7 0xFB).romByte a = (image 16 1 2 3 0x08).romByte a) ∧
    (image 16 9 8 7 0xFB).romByte 7 &&& 0x0C = (image 16 1 2 3 0x08).romByte 7 &&& 0x0C ∧
    ∃ t, exec .inspect (image 16 1 2 3 0x08) = .next t := ⟨rfl, by decide, by decide, exec_answers _ _⟩

theorem witness_formatIsReadByNoCommand : ∀ i : Instr, ∃ t,
    exec i (image 16 0 0 0 8) = .next t := fun i => exec_answers i _

/-- INSPECT, LOCATE and PREPARE: ROM_LEN 15 and 16. -/
theorem witness_headerCommands : (image 15 0 0 0 0).tainted = false ∧ (image 15 0 0 0 0).romLen.toNat < 16 ∧
    (image 16 0 0 0 0).tainted = false ∧ 16 ≤ (image 16 0 0 0 0).romLen.toNat := by decide

theorem witness_locatedRegion : (image 16 255 255 4 0).tainted = false ∧ 16 ≤ (image 16 255 255 4 0).romLen.toNat ∧
    (∃ t, exec .locate (image 16 255 255 4 0) = .next t) ∧
    answers (exec .locate (image 16 255 255 4 0)) (fun t => decide (509 < t.groupCount)) = true :=
  ⟨rfl, by decide, exec_answers _ _, by decide⟩

/-- PREPARE's cases: no magic; a region that ends one byte past ROM_LEN; one that ends at it. -/
theorem witness_prepare : (loaded 16 0 [0, 0, 0, 0, 0, 0, 0, 0]).romByte 0 ≠ 0x4E ∧
    (image 24591 1 1 0 0).romLen.toNat + 1 =
      16 + ((image 24591 1 1 0 0).romByte 4).toNat * 16384 + ((image 24591 1 1 0 0).romByte 5).toNat * 8192 ∧
    (image 24592 1 1 0 0).romLen.toNat =
      16 + ((image 24592 1 1 0 0).romByte 4).toNat * 16384 + ((image 24592 1 1 0 0).romByte 5).toNat * 8192 ∧
    (image 24592 1 1 0 0).romByte 3 = 0x1A := by decide

theorem witness_romLenClamp : ∃ t, State.reset.tainted = false ∧
    exec .prepare { State.reset with romLen := clampLen 0xFFFFFFFF } = .next t := by
  obtain ⟨t, ht⟩ := exec_answers .prepare { State.reset with romLen := clampLen 0xFFFFFFFF }
  exact ⟨t, rfl, ht⟩

theorem witness_emptyRegion : (image 528 0 0 4 0).tainted = false ∧ 16 ≤ (image 528 0 0 4 0).romLen.toNat ∧
    (image 528 0 0 4 0).romByte 0 = 0x4E ∧ (image 528 0 0 4 0).romByte 1 = 0x45 ∧
    (image 528 0 0 4 0).romByte 2 = 0x53 ∧ (image 528 0 0 4 0).romByte 3 = 0x1A ∧ (image 528 0 0 4 0).romByte 5 = 0 ∧
    locateOffset ((image 528 0 0 4 0).romByte 4) ((image 528 0 0 4 0).romByte 6) ≤ (image 528 0 0 4 0).romLen.toNat := by
  decide

/-- FETCH's three cases at their boundaries: the region one byte past ROM_LEN, tile 257 of 257, tile 256. -/
theorem witness_fetch :
    (region (loaded 4142 0 []) 16 4127).romLen.toNat < 16 + 4127 ∧
    16 + 4127 ≤ (region (loaded 4143 0 []) 16 4127).romLen.toNat ∧
    (region (loaded 4143 0 []) 16 4127).chrLength.toNat / 16 ≤ 257 ∧
    256 < (region (loaded 4143 0 []) 16 4127).chrLength.toNat / 16 ∧
    (region (loaded 4143 0 []) 16 4127).tainted = false ∧ 257 < 2 ^ 28 := by decide

/-- 257 tiles and 15 bytes; no tile and 15 bytes. -/
theorem witness_remainder : ∀ p ∈ [(4143, 4127, 257), (31, 15, 0)],
    let s := region (loaded (BitVec.ofNat 32 p.1) 0 []) 16 (BitVec.ofNat 32 p.2.1)
    s.tainted = false ∧ s.chrLength.toNat = 16 * p.2.2 + 15 ∧
    s.chrOffset.toNat + s.chrLength.toNat ≤ s.romLen.toNat := by
  decide

theorem witness_pixel_convert : halfFetched.tainted = false := by decide

/-- COMPOSE's three cases: the region one byte past ROM_LEN, group 2 of 2, group 1. -/
theorem witness_compose :
    (region (loaded 4142 0 []) 16 4127).romLen.toNat < 16 + 4127 ∧
    ((region (loaded 4143 0 []) 16 4127).chrLength.toNat / 16 + 255) / 256 ≤ 2 ∧
    1 < ((region (loaded 4143 0 []) 16 4127).chrLength.toNat / 16 + 255) / 256 ∧
    (region (loaded 4143 0 []) 16 4127).tainted = false := by decide

theorem witness_composeClosedForm :
    let s := region (loaded 4143 4112 half) 16 4127
    s.tainted = false ∧ s.chrOffset.toNat + s.chrLength.toNat ≤ s.romLen.toNat ∧ 1 < s.groupCount := by decide

theorem witness_composedRasterIsGrey : (region (loaded 32 16 half) 16 16).tainted = false ∧
    answers (exec (.compose 0) (region (loaded 32 16 half) 16 16)) (·.err == 0) = true := by decide

/-- 257 tiles: group 1 holds tile 256. -/
theorem witness_groups : 1 < (region State.reset 16 4127).groupCount ∧ 256 < (region State.reset 16 4127).tileCount ∧
    0 < (region State.reset 16 4127).groupTiles 1 ∧ 256 = 256 * 1 + 0 := by decide

theorem witness_resetValues : ∃ t, runHostOp .reset (busyWith State.reset 0x70000000 3) = .next t := ⟨_, rfl⟩

/-- The first and last address of each window, the addresses beside them, and a wrong width. -/
theorem witness_busAccess :
    (∀ p ∈ [(32, 0x00), (32, 0xFC), (8, 0x10000), (8, 0x1BFFF), (8, 0x1000000), (8, 0x1000000 + 6267407)],
      (busTarget p.1 p.2).isSome = true) ∧
    (∀ p ∈ [(32, 0x01), (32, 0x100), (8, 0x04), (8, 0xFFFF), (8, 0x1C000), (32, 0x10000), (8, 0xFFFFFF), (32,
    0x1000000)],
      busTarget p.1 p.2 = none) ∧
    busTarget 8 (0x1000000 + Config.romCap) = none ∧ 0x1000000 + (Config.romCap - 1) < 0x1000000 + Config.romCap := by
  have := romCapMin_le_romCap
  refine ⟨by decide, by decide, ?_, by simp only [Config.romCapMin] at this; omega⟩
  simp only [Config.romCapMin] at this
  unfold busTarget
  rw [if_neg (by omega), if_neg (by unfold sheetBase sheetBytes; omega), if_neg]
  rw [withinRomCap_eq_true]
  unfold romBase
  omega

theorem witness_registerReads : State.reset.busyWord = none ∧
    (0x48, State.reset.sheetTiles.toNat) ∈ [(0x00, 0), (0x48, State.reset.sheetTiles.toNat)] := by decide

theorem witness_statusReads : (State.reset.withFetchWord 32 0x10000000).Inv ∧
    (State.reset.withFetchWord 32 0x10000000).busyWord ≠ none := ⟨inv_withFetchWord _, by decide⟩

/-- A COMPOSE in flight is neither a LOCATE nor a PREPARE. -/
theorem witness_counts : (busyWith State.reset 0x70000000 1).inflight ≠ some .locate ∧
    (busyWith State.reset 0x70000000 1).inflight ≠ some .prepare := by decide

/-- The first and last reserved offset, and the last SHEET byte. -/
theorem witness_ignoredWrites : (0x4C ≤ 0x4C ∧ 0x4C < 0x100 ∧ 0x4C % 4 = 0) ∧ (0x4C ≤ 0xFC ∧ 0xFC < 0x100 ∧
    0xFC % 4 = 0) ∧
    49151 < 49152 := by decide

theorem witness_romByteReadsBack : 6267407 < Config.romCap := by
  have := romCapMin_le_romCap
  simp only [Config.romCapMin] at this
  omega

/-- A read of a result of the command in flight, and of a location that is none. -/
theorem witness_readsHaveNoEffect : busTarget 8 0x10000 = some (.sheetByte 0) ∧
    (Target.sheetByte 0).resultLoc = some .sheetByte ∧
    (busyWith State.reset 0x70000000 1).inflight = some (.compose 0) ∧ ResultLoc.sheetByte ∈ (Instr.compose 0).results ∧
    ResultLoc.conv ∉ (Instr.compose 0).results := by decide

/-- A COMPOSE in flight reads the ROM and the region, a LOCATE the ROM only, a CONVERT neither. -/
theorem witness_inputHazard : (busyWith State.reset 0x70000000 1).inflight = some (.compose 0) ∧
    (busyWith State.reset 0x20000000 1).inflight = some .locate ∧
    (busyWith State.reset 0x600000FF 1).inflight = some (.convert 0xFF 0) := by decide

/-- A state with known bytes in both buffers has the invariant, and a reset answers from it. -/
theorem witness_resetForgetsBuffers :
    let s := { State.reset with rom := State.reset.rom.write 5 1, sheet := State.reset.sheet.write 49151 2 }
    s.Inv ∧ s.rom.cells ≠ [] ∧ s.sheet.cells ≠ [] ∧ ∃ t, runHostOp .reset s = .next t := by
  refine ⟨⟨by decide, by decide, ?_, by decide, Nat.zero_le _, nofun, by decide, by decide, nofun⟩, by decide,
    by decide, _, rfl⟩
  have := romCapMin_le_romCap
  simp only [Config.romCapMin] at this
  simp only [Memory.write, State.reset, writeCell, List.mem_singleton, forall_eq]
  omega

/-- No COMPOSE in flight; the first and last byte of each buffer's window. -/
theorem witness_bufferByteReads : (∀ g, (busyWith State.reset 0x20000000 1).inflight ≠ some (.compose g)) ∧
    busTarget 8 0x10000 = some (.sheetByte 0) ∧ busTarget 8 0x1BFFF = some (.sheetByte 49151) ∧
    busTarget 8 0x1000000 = some (.romByte 0) ∧ 6267407 < Config.romCap := by
  have locate : (busyWith State.reset 0x20000000 1).inflight = some .locate := by decide
  exact ⟨fun g h => (nomatch locate.symm.trans h), by decide, by decide, by decide, witness_romByteReadsBack⟩

theorem witness_export : (State.reset.setProgram [.exportImage "P" [0x4E]]).busyWord = none ∧
    (State.reset.setProgram [.exportImage "P" [0x4E]]).host.program = [.exportImage "P" [0x4E]] := by decide

end Sys2Proof.Tests
end

section
/-! SUPPORT. The frame of the commands: `exec` as one completion of a rule, what a rule can answer, and the answers of
`step` while a command is in flight. Then the statements about what commands leave unchanged and when they complete. -/

namespace Sys2Proof.Machine

/-- The rule `exec` completes the command `i` by; `exec_eq_runCommand` says so. -/
def ruleOf : Instr → State → State × ErrCode
  | .inspect => inspectRule
  | .locate => locateRule
  | .prepare => prepareRule
  | .fetch t => fetchRule t
  | .pixel x y => pixelRule x y
  | .convert lo hi => convertRule lo hi
  | .compose g => composeRule g

/-- The results `exec` writes where the command `i` is tainted (R186). -/
def anyResultsOf : Instr → State → State
  | .inspect => inspectAny
  | .locate => locateAny
  | .prepare => prepareAny
  | .fetch _ => fetchAny
  | .pixel _ _ => pixelAny
  | .convert _ _ => convertAny
  | .compose _ => composeAny

/-- Every command is one completion (R165) of its rule. -/
theorem exec_eq_runCommand (i : Instr) (s : State) : exec i s = runCommand (ruleOf i) (anyResultsOf i) s := by
  cases i <;> rfl

/-- The second state is the first with any values in the results column of the command (R186), and nothing else
changed. -/
inductive WritesResults (s : State) : Instr → State → Prop
  | inspect (f : BitVec 2) : WritesResults s .inspect (s.setFormat f)
  | locate (offset length : Word) : WritesResults s .locate (s.setRegion offset length)
  | prepare (f : BitVec 2) (offset length : Word) : WritesResults s .prepare ((s.setFormat f).setRegion offset length)
  | fetch (t : Nat) (d : Vector Byte 16) (n : BitVec 28) : WritesResults s (.fetch t) (s.setTile d n)
  | pixel (x y : BitVec 3) (v : BitVec 2) : WritesResults s (.pixel x y) (s.setPix v)
  | convert (lo hi : Byte) (v : BitVec 16) : WritesResults s (.convert lo hi) (s.setConv v)
  | compose (k : Nat) (m : Memory) (g : BitVec 28) (n : BitVec 9) : WritesResults s (.compose k) (s.setSheet m g n)

/-- Writing back the results a state holds leaves it as it is. -/
theorem WritesResults.refl (s : State) : ∀ i : Instr, WritesResults s i s
  | .inspect => .inspect s.format
  | .locate => .locate s.chrOffset s.chrLength
  | .prepare => .prepare s.format s.chrOffset s.chrLength
  | .fetch t => .fetch t s.tile s.tileIndex
  | .pixel x y => .pixel x y s.pix
  | .convert lo hi => .convert lo hi s.conv
  | .compose k => .compose k s.sheet s.sheetGroup s.sheetTiles

/-- What a command's rule can answer in `s`: an error code with the state unchanged, PREPARE's error code with FORMAT
written (R151), or no error and the command's results. -/
inductive RuleAnswers (s : State) : Instr → State × ErrCode → Prop
  | failed {i : Instr} {e : ErrCode} (he : e ≠ .none) : RuleAnswers s i (s, e)
  | prepareFailed {f : BitVec 2} {e : ErrCode} (he : e ≠ .none) : RuleAnswers s .prepare (s.setFormat f, e)
  | done {i : Instr} {u : State} (hu : WritesResults s i u) : RuleAnswers s i (u, .none)

/-- Every rule answers in one of the three ways. -/
theorem ruleOf_answers (i : Instr) (s : State) : RuleAnswers s i (ruleOf i s) := by
  cases i with
  | inspect =>
    obtain ⟨-, h⟩ | ⟨-, h⟩ := inspectRule_cases s <;> rw [ruleOf, h]
    · exact .failed nofun
    · exact .done (.inspect _)
  | locate =>
    obtain ⟨-, h⟩ | ⟨-, h⟩ := locateRule_cases s <;> rw [ruleOf, h]
    · exact .failed nofun
    · exact .done (.locate _ _)
  | prepare =>
    obtain ⟨-, h⟩ | ⟨-, -, h⟩ | ⟨-, -, -, h⟩ | ⟨-, -, -, h⟩ := prepareRule_cases s <;> rw [ruleOf, h]
    · exact .failed nofun
    · exact .prepareFailed nofun
    · exact .prepareFailed nofun
    · exact .done (.prepare _ _ _)
  | fetch t =>
    obtain ⟨-, h⟩ | ⟨-, -, h⟩ | ⟨-, -, h⟩ := fetchRule_cases t s <;> rw [ruleOf, h]
    · exact .failed nofun
    · exact .failed nofun
    · exact .done (.fetch t _ _)
  | pixel x y => exact .done (.pixel x y _)
  | convert lo hi => exact .done (.convert lo hi _)
  | compose g =>
    obtain ⟨-, h⟩ | ⟨-, -, h⟩ | ⟨-, -, h⟩ := composeRule_cases g s <;> rw [ruleOf, h]
    · exact .failed nofun
    · exact .failed nofun
    · exact .done (.compose g _ _ _)

/-- However a rule answers, it writes at most its command's results. -/
theorem RuleAnswers.writesResults {s : State} {i : Instr} {r : State × ErrCode} (h : RuleAnswers s i r) :
    WritesResults s i r.1 := by
  cases h with
  | failed he => exact .refl s i
  | @prepareFailed f e he => exact .prepare f s.chrOffset s.chrLength
  | done hu => exact hu

/-- A rule that answers a nonzero code writes at most FORMAT, and that only for PREPARE (R10, R151). -/
theorem RuleAnswers.of_code_ne_zero {s : State} {i : Instr} {r : State × ErrCode} (h : RuleAnswers s i r)
    (he : r.2.code ≠ 0) : r.1 = s.setFormat r.1.format ∧ (i ≠ .prepare → r.1.format = s.format) := by
  cases h with
  | failed => exact ⟨rfl, fun _ => rfl⟩
  | prepareFailed => exact ⟨rfl, fun hi => absurd rfl hi⟩
  | done => exact absurd rfl he

/-- Any results of a tainted command are values of its results column. -/
theorem anyResultsOf_writesResults (i : Instr) (s : State) : WritesResults s i (anyResultsOf i s) := by
  cases i <;> constructor

/-- If a command answers `t`, then `t` is the conclusion of a state with at most the command's results written, and
with a draw made where the command was tainted. -/
theorem exec_next {i : Instr} {s t : State} (h : exec i s = .next t) :
    ∃ u code, WritesResults s i u ∧ (t = u.conclude code ∨ t = u.drawn.conclude code) := by
  rw [exec_eq_runCommand] at h
  obtain ⟨-, ht⟩ | ⟨-, ht⟩ := runCommand_next h
  · exact ⟨_, _, (ruleOf_answers i s).writesResults, .inl ht⟩
  · exact ⟨_, _, anyResultsOf_writesResults i s, .inr ht⟩

/-- A conclusion with a nonzero code sets DONE and ERR (R165). -/
theorem conclude_error {s : State} {code : BitVec 4} (h : code ≠ 0) :
    s.conclude code = { s with busyWord := none, err := code, irqStatus := s.irqStatus ||| 3 } := by
  rw [State.conclude, completionBits_or, if_neg h]

/-- A completion always answers a next state, the conclusion of some state. -/
theorem runCommand_concludes (rule : State → State × ErrCode) (anyResults : State → State) (s : State) :
    ∃ (u : State) (code : BitVec 4), runCommand rule anyResults s = .next (u.conclude code) := by
  cases ht : s.tainted with
  | false => exact ⟨_, _, runCommand_untainted ht rule anyResults⟩
  | true => exact ⟨_, _, runCommand_tainted ht rule anyResults⟩

/-- The ENGINE's step clears the latch, for a legal and for an illegal word (R165). -/
theorem engineStep_completes (w : Word) (s : State) : ∃ t, engineStep w s = .next t ∧ t.busyWord = none := by
  unfold engineStep
  split
  · rename_i i _
    obtain ⟨u, code, h⟩ := runCommand_concludes (ruleOf i) (anyResultsOf i) s
    exact ⟨_, (exec_eq_runCommand i s).trans h, State.conclude_busyWord ..⟩
  · obtain ⟨u, code, h⟩ := runCommand_concludes (fun t => (t, .illegalCommand)) (fun t => t) s
    exact ⟨_, h, State.conclude_busyWord ..⟩

/-- With no host step left before the completion, a step is the ENGINE's (R165). -/
theorem step_engine {s : State} {w : Word} (hb : s.busyWord = some w) (hw : s.engineWait = 0) :
    step s = engineStep w s := by
  simp [step, hb, hw]

/-- With host steps left before the completion, a step is the host's and takes one of them (R5, log entry 2). -/
theorem step_hostFirst {s : State} {w : Word} (hb : s.busyWord = some w) (hw : s.engineWait ≠ 0) :
    step s = hostStep s.tick := by
  simp [step, hb, hw]

/-- A host with no action left does nothing (R176). -/
theorem hostStep_silent {s : State} (h : s.host.program = []) : hostStep s = .next s := by
  simp [hostStep, h]

/-- A silent host takes the steps before the completion one by one, and the step after them completes the command. -/
theorem run_silent_completes {w : Word} : ∀ (n : Nat) (s : State), s.engineWait = n → s.busyWord = some w →
    s.host.program = [] → ∃ t, Host.Core.run core (n + 1) s = .next t ∧ t.busyWord = none
  | 0, s, hw, hb, _ => by
    obtain ⟨t, ht, hidle⟩ := engineStep_completes w s
    exact ⟨t, run_succ ((step_engine hb hw).trans ht), hidle⟩
  | n + 1, s, hw, hb, hp => by
    have htick : step s = .next s.tick := (step_hostFirst hb (by omega)).trans (hostStep_silent hp)
    rw [run_succ htick]
    exact run_silent_completes n s.tick (by simp [hw]) hb hp

/-- Settles O10: a command's answer is the conclusion of a state with only its results written (`exec_next`), with or
without a draw; so one look at each command's results gives the frame. -/
theorem commandFrame : Obligations.CommandFrame := by
  unfold Obligations.CommandFrame
  intro i s t h
  obtain ⟨u, code, hu, rfl | rfl⟩ := exec_next h
  · cases hu <;> simp [State.romByte, State.sheetByte]
  · cases hu <;> simp [State.romByte, State.sheetByte]

/-- Settles O11: an untainted command that fails has changed at most FORMAT before its conclusion. -/
theorem failedCommandWritesNothing : Obligations.FailedCommandWritesNothing := by
  unfold Obligations.FailedCommandWritesNothing
  intro i s t hs h he
  rw [exec_eq_runCommand, runCommand_untainted hs, Host.Outcome.next.injEq] at h
  subst h
  rw [State.conclude_err] at he
  obtain ⟨hstate, hformat⟩ := (ruleOf_answers i s).of_code_ne_zero he
  refine ⟨?_, hformat⟩
  rw [hstate, conclude_error he]
  rfl

/-- Settles O13, by induction on the host steps drawn for the command. -/
theorem engineCompletesInTime : Obligations.EngineCompletesInTime := by
  unfold Obligations.EngineCompletesInTime
  intro s w hb hp
  exact run_silent_completes s.engineWait s rfl hb hp

end Sys2Proof.Machine
end

section
/-! SUPPORT. The invariant of every reachable state: which fields it rests on, and what each way a step can end does to
them. Then the statement that every step keeps it. -/

namespace Sys2Proof.Machine

/-! The engine's step. An illegal word writes no result, a command at most its own; so one shape covers both. -/

/-- If the ENGINE's step answers `t`, then `t` is the conclusion of a state with at most one command's results written,
with or without a draw (R165, R186). -/
theorem engineStep_next {w : Word} {s t : State} (h : engineStep w s = .next t) :
    ∃ i u code, WritesResults s i u ∧ (t = u.conclude code ∨ t = u.drawn.conclude code) := by
  unfold engineStep at h
  split at h
  · exact ⟨_, exec_next h⟩
  · obtain ⟨-, rfl⟩ | ⟨-, rfl⟩ := runCommand_next h
    · exact ⟨.inspect, s, _, .refl s _, .inl rfl⟩
    · exact ⟨.inspect, s, _, .refl s _, .inr rfl⟩

/-- What no completion of any word changes, and that it clears the latch and undoes no draw (R165, R186). -/
theorem engineStep_frame {w : Word} {s t : State} (h : engineStep w s = .next t) :
    t.busyWord = none ∧ t.irqEnable = s.irqEnable ∧ t.romLen = s.romLen ∧ t.rom = s.rom ∧ s.draws ≤ t.draws := by
  obtain ⟨i, u, code, hu, rfl | rfl⟩ := engineStep_next h <;> cases hu <;> simp

/-- The SHEET buffer after a command: as it was, composed, or unknown by a draw made now (R64, R143, R186). -/
theorem exec_sheet {i : Instr} {s t : State} (h : exec i s = .next t) :
    t.sheet = s.sheet ∨ (∃ first n, t.sheet = { cells := composeCells s first n, draw := 0 }) ∨
      (t.sheet = Memory.unknown s.draws ∧ s.draws < t.draws) := by
  by_cases hi : ∀ g, i ≠ .compose g
  · obtain ⟨u, code, hu, rfl | rfl⟩ := exec_next h <;> cases hu <;> simp at hi ⊢
  · obtain ⟨g, rfl⟩ : ∃ g, i = .compose g := by simpa using hi
    rw [exec_eq_runCommand] at h
    obtain ⟨-, rfl⟩ | ⟨-, rfl⟩ := runCommand_next h
    · obtain ⟨-, h⟩ | ⟨-, -, h⟩ | ⟨-, -, h⟩ := composeRule_cases g s <;> rw [ruleOf, h]
      · exact .inl rfl
      · exact .inl rfl
      · exact .inr (.inl ⟨_, _, rfl⟩)
    · exact .inr (.inr ⟨rfl, Nat.lt_succ_self _⟩)

/-- `exec_sheet` for any word: an illegal one leaves the buffer as it was. -/
theorem engineStep_sheet {w : Word} {s t : State} (h : engineStep w s = .next t) :
    t.sheet = s.sheet ∨ (∃ first n, t.sheet = { cells := composeCells s first n, draw := 0 }) ∨
      (t.sheet = Memory.unknown s.draws ∧ s.draws < t.draws) := by
  unfold engineStep at h
  split at h
  · exact exec_sheet h
  · obtain ⟨-, rfl⟩ | ⟨-, rfl⟩ := runCommand_next h <;> exact .inl rfl

/-! What the invariant rests on. -/

/-- The fields the invariant reads; of `draws` it needs only that no draw is undone. -/
theorem State.Inv.congr {s t : State} (hs : s.Inv) (hrom : t.rom = s.rom) (hsheet : t.sheet = s.sheet)
    (hlen : t.romLen = s.romLen) (hbusy : t.busyWord = s.busyWord) (herr : t.err = s.err)
    (htainted : t.tainted = s.tainted) (hdraws : s.draws ≤ t.draws) : t.Inv where
  romWf := hrom ▸ hs.romWf
  sheetWf := hsheet ▸ hs.sheetWf
  romBound := hrom ▸ hs.romBound
  sheetBound := hsheet ▸ hs.sheetBound
  romLen := hlen ▸ hs.romLen
  busyErr := by simpa only [State.busy, hbusy, herr] using hs.busyErr
  romDraw := hrom ▸ Nat.lt_of_lt_of_le hs.romDraw hdraws
  sheetDraw := hsheet ▸ Nat.lt_of_lt_of_le hs.sheetDraw hdraws
  taintedInput := by simpa only [State.busy, State.inflight, hbusy, htainted] using hs.taintedInput

/-- A step that leaves the block as it is and undoes no draw keeps the invariant. -/
theorem State.Inv.of_sameBlock {s t : State} (hs : s.Inv) (h : SameBlock s t) (hdraws : s.draws ≤ t.draws) : t.Inv :=
  hs.congr h.rom h.sheet h.romLen h.busyWord h.err h.tainted hdraws

/-- The ENGINE's step keeps the invariant: it leaves the block idle with the ROM side as it was, and a SHEET buffer it
has written is a raster or unknown. -/
theorem State.Inv.engineStep {s t : State} {w : Word} (hs : s.Inv) (h : engineStep w s = .next t) : t.Inv := by
  obtain ⟨hbusy, -, hlen, hrom, hdraws⟩ := engineStep_frame h
  have sheet : t.sheet.wf ∧ (∀ c ∈ t.sheet.cells, c.1 < sheetBytes) ∧ t.sheet.draw < t.draws := by
    obtain he | ⟨first, n, he⟩ | ⟨he, hlt⟩ := engineStep_sheet h <;> rw [he]
    · exact ⟨hs.sheetWf, hs.sheetBound, Nat.lt_of_lt_of_le hs.sheetDraw hdraws⟩
    · exact ⟨composeCells_wf s first n, fun c hc => composeCells_bound hc,
        Nat.lt_of_lt_of_le (Nat.zero_lt_of_lt hs.romDraw) hdraws⟩
    · exact ⟨Memory.unknown_wf _, nofun, hlt⟩
  obtain ⟨sheetWf, sheetBound, sheetDraw⟩ := sheet
  exact {
    romWf := hrom ▸ hs.romWf
    sheetWf
    romBound := hrom ▸ hs.romBound
    sheetBound
    romLen := hlen ▸ hs.romLen
    busyErr := by simp [State.busy, hbusy]
    romDraw := hrom ▸ Nat.lt_of_lt_of_le hs.romDraw hdraws
    sheetDraw
    taintedInput := by simp [State.busy, hbusy] }

/-! The host's writes. -/

/-- A location that is an input of the command in flight shows that the command has inputs (R186). -/
theorem exists_inputs_of_isInput {s : State} {l : InputLoc} (h : s.isInput l = true) :
    ∃ i, s.inflight = some i ∧ i.inputs ≠ [] := by
  obtain ⟨i, hi, hl⟩ := (Option.any_eq_true _ _).1 h
  exact ⟨i, hi, fun he => by simp [he] at hl⟩

theorem State.Inv.touch {s : State} (hs : s.Inv) (l : InputLoc) : (s.touch l).Inv :=
  { hs with
    taintedInput := fun hbusy htainted => by
      rw [State.touch_tainted, Bool.or_eq_true] at htainted
      exact htainted.elim (hs.taintedInput hbusy) exists_inputs_of_isInput }

theorem State.Inv.accept {s : State} (hs : s.Inv) (w : Word) : (s.accept w).Inv :=
  { hs with
    busyErr := fun _ => rfl
    romDraw := Nat.lt_succ_of_lt hs.romDraw
    sheetDraw := Nat.lt_succ_of_lt hs.sheetDraw
    taintedInput := nofun }

theorem State.Inv.submit {s : State} (hs : s.Inv) (w : Word) : (s.submit w).Inv := by
  unfold State.submit
  split
  · exact hs.congr rfl rfl rfl rfl rfl rfl (Nat.le_refl _)
  · exact hs.accept w

theorem State.Inv.setRomLen {s : State} (hs : s.Inv) (v : Word) : (s.setRomLen v).Inv :=
  { hs with
    romLen := by
      rw [State.setRomLen_romLen, clampLen_toNat]
      exact Nat.min_le_right _ _ }

theorem State.Inv.setRomByte {s : State} (hs : s.Inv) {a : Nat} (ha : a < Config.romCap) (v : Byte) :
    (s.setRomByte a v).Inv :=
  { hs with
    romWf := Memory.write_wf hs.romWf a v
    romBound := fun c hc => by
      obtain rfl | hc := mem_writeCell hc
      · exact ha
      · exact hs.romBound c hc }

/-- Every host write the bus map gives a meaning keeps the invariant. -/
theorem State.Inv.hostWrite {s : State} {width addr : Nat} {g : Target} (hs : s.Inv)
    (hg : busTarget width addr = some g) (v : Word) : (s.hostWrite g v).Inv := by
  obtain h | h | h | h | h | h | h | ⟨a, rfl, h⟩ := hostWrite_cases s g v <;> rw [h]
  · exact hs
  · exact hs.submit v
  · exact hs.congr rfl rfl rfl rfl rfl rfl (Nat.le_refl _)
  · exact hs.congr rfl rfl rfl rfl rfl rfl (Nat.le_refl _)
  · exact (hs.touch .romLen).setRomLen v
  · exact (hs.touch .chrOffset).congr rfl rfl rfl rfl rfl rfl (Nat.le_refl _)
  · exact (hs.touch .chrLength).congr rfl rfl rfl rfl rfl rfl (Nat.le_refl _)
  · exact (hs.touch .romByte).setRomByte (busTarget_rom_lt hg) _

/-- A reset answers a state with the invariant: nothing known in either buffer, and their draw is made now (R183). -/
theorem inv_resetBlock (s : State) : s.resetBlock.Inv where
  romWf := Memory.unknown_wf _
  sheetWf := Memory.unknown_wf _
  romBound := nofun
  sheetBound := nofun
  romLen := Nat.zero_le _
  busyErr := nofun
  romDraw := Nat.lt_succ_self _
  sheetDraw := Nat.lt_succ_self _
  taintedInput := nofun

/-- The host's step keeps the invariant. -/
theorem State.Inv.hostStep {s t : State} (hs : s.Inv) (h : hostStep s = .next t) : t.Inv := by
  have program (p : List HostOp) : (s.setProgram p).Inv := hs.of_sameBlock (setProgram_sameBlock s p) (Nat.le_refl _)
  obtain rfl | ⟨op, rest, -, ⟨w, a, g, -, -, rfl⟩ | ⟨w, a, v, g, -, hg, rfl⟩ | ⟨-, rfl⟩ | ⟨hsame, hdraws⟩⟩ :=
    hostStep_cases h
  · exact hs
  · exact (program rest).of_sameBlock (hostRead_sameBlock _ g) (hostRead_draws _ g)
  · exact (program rest).hostWrite hg v
  · exact inv_resetBlock _
  · exact hs.of_sameBlock hsame hdraws

/-- A step is the ENGINE's on the word in flight, or the host's from a state that differs at most in the count of host
steps to come (R71, R165). -/
theorem step_cases {s t : State} (h : step s = .next t) :
    (∃ w, engineStep w s = .next t) ∨ hostStep s.tick = .next t ∨ hostStep s = .next t := by
  unfold step at h
  split at h
  · split at h
    · exact .inl ⟨_, h⟩
    · exact .inr (.inl h)
  · exact .inr (.inr h)

/-- Settles O15: the ENGINE's step and the host's each keep the invariant, and a tick touches none of its fields. -/
theorem stepKeepsInv : Obligations.StepKeepsInv := by
  unfold Obligations.StepKeepsInv
  intro s t hs h
  obtain ⟨w, h⟩ | h | h := step_cases h
  · exact hs.engineStep h
  · exact (hs.congr (t := s.tick) rfl rfl rfl rfl rfl rfl (Nat.le_refl _)).hostStep h
  · exact hs.hostStep h

end Sys2Proof.Machine
end

section
/-! SUPPORT. FORMAT: who writes it and what (R28, R102), and that no rule reads it. Then the two statements about it. -/

namespace Sys2Proof.Machine

/-! FORMAT's two flags. -/

/-- FORMAT as a header gives it: NES20 only where VALID_INES (R102). -/
theorem inspectHeader_flags (b : Vector Byte 8) :
    (inspectHeader b).getLsbD 1 = true → (inspectHeader b).getLsbD 0 = true := by
  simp only [inspectHeader, isNes20]
  cases validInes b <;> cases b[7] &&& 0x0C == 0x08 <;> decide

/-- A rule leaves FORMAT as it is or writes what the header gives (R100, R150). -/
theorem ruleOf_format (i : Instr) (s : State) :
    (ruleOf i s).1.format = s.format ∨ (ruleOf i s).1.format = inspectHeader s.header := by
  cases i with
  | inspect => obtain ⟨-, h⟩ | ⟨-, h⟩ := inspectRule_cases s <;> simp [ruleOf, h]
  | prepare =>
    obtain ⟨-, h⟩ | ⟨-, -, h⟩ | ⟨-, -, -, h⟩ | ⟨-, -, -, h⟩ := prepareRule_cases s <;>
      simp [ruleOf, h, inspectHeader]
  | locate => obtain ⟨-, h⟩ | ⟨-, h⟩ := locateRule_cases s <;> simp [ruleOf, h]
  | fetch n => obtain ⟨-, h⟩ | ⟨-, -, h⟩ | ⟨-, -, h⟩ := fetchRule_cases n s <;> simp [ruleOf, h]
  | compose g => obtain ⟨-, h⟩ | ⟨-, -, h⟩ | ⟨-, -, h⟩ := composeRule_cases g s <;> simp [ruleOf, h]
  | pixel x y => exact .inl rfl
  | convert lo hi => exact .inl rfl

/-- FORMAT after an untainted completion of any word. -/
theorem engineStep_format {w : Word} {s t : State} (hs : s.tainted = false) (h : engineStep w s = .next t) :
    t.format = s.format ∨ t.format = inspectHeader s.header := by
  unfold engineStep at h
  split at h
  · rw [exec_eq_runCommand, runCommand_untainted hs, Host.Outcome.next.injEq] at h
    subst h
    exact ruleOf_format _ s
  · rw [completeIllegal, runCommand_untainted hs, Host.Outcome.next.injEq] at h
    subst h
    exact .inl rfl

@[simp] theorem submit_format (s : State) (w : Word) : (s.submit w).format = s.format := by
  unfold State.submit
  split <;> rfl

/-- No host write changes FORMAT, which is read-only (R28). -/
theorem hostWrite_format (s : State) (g : Target) (v : Word) : (s.hostWrite g v).format = s.format := by
  obtain h | h | h | h | h | h | h | ⟨a, -, h⟩ := hostWrite_cases s g v <;> simp [h]

/-- The host's step leaves FORMAT as it is or resets it. -/
theorem hostStep_format {s t : State} (h : hostStep s = .next t) : t.format = s.format ∨ t.format = 0 := by
  obtain rfl | ⟨op, rest, -, ⟨w, a, g, -, -, rfl⟩ | ⟨w, a, v, g, -, -, rfl⟩ | ⟨-, rfl⟩ | ⟨hsame, -⟩⟩ := hostStep_cases h
  · exact .inl rfl
  · exact .inl (hostRead_sameBlock _ g).format
  · exact .inl (hostWrite_format _ g v)
  · exact .inr rfl
  · exact .inl hsame.format

theorem formatOk_of_zero {s : State} (h : s.format = 0) : s.FormatOk := by simp [State.FormatOk, h]

theorem State.FormatOk.congr {s t : State} (hs : s.FormatOk) (h : t.format = s.format) : t.FormatOk := by
  rwa [State.FormatOk, h]

/-- The host's step keeps the implication. -/
theorem State.FormatOk.hostStep {s t : State} (hs : s.FormatOk) (h : hostStep s = .next t) : t.FormatOk :=
  (hostStep_format h).elim hs.congr formatOk_of_zero

/-- Settles O17: only the header's flags and a reset's 0 are ever written to FORMAT by a step from an untainted state. -/
theorem nes20ImpliesValidInes : Obligations.Nes20ImpliesValidInes := by
  unfold Obligations.Nes20ImpliesValidInes
  refine ⟨formatOk_of_zero rfl, fun s t htainted hs h => ?_⟩
  obtain ⟨w, h⟩ | h | h := step_cases h
  · obtain hkept | hwritten := engineStep_format htainted h
    · exact hs.congr hkept
    · rw [State.FormatOk, hwritten]
      exact inspectHeader_flags _
  · exact State.FormatOk.hostStep (s := s.tick) hs h
  · exact hs.hostStep h

/-! No command reads FORMAT. -/

/-- `r'` is `r` but for FORMAT, which `r` leaves as it is in `s` and `r'` at `f`, or which is the same in both. -/
def FormatAside {α : Type} (s : State) (f : BitVec 2) (r r' : State × α) : Prop :=
  ∃ f', r' = (r.1.setFormat f', r.2) ∧ ((f' = f ∧ r.1.format = s.format) ∨ f' = r.1.format)

section
variable {α : Type} {s : State} {f : BitVec 2}

theorem FormatAside.kept {u : State} {e : α} (h : u.format = s.format) : FormatAside s f (u, e) (u.setFormat f, e) :=
  ⟨f, rfl, .inl ⟨rfl, h⟩⟩

theorem FormatAside.written {u : State} {e : α} : FormatAside s f (u, e) (u, e) := ⟨u.format, rfl, .inr rfl⟩

/-- A check that does not read FORMAT keeps the relation. -/
theorem FormatAside.ite {c : Prop} [Decidable c] {r r' q q' : State × α} (hr : FormatAside s f r r')
    (hq : FormatAside s f q q') : FormatAside s f (if c then r else q) (if c then r' else q') := by
  split
  · exact hr
  · exact hq

end

/-- A rule reads no FORMAT: each of its checks decides alike, INSPECT and PREPARE write the header's flags, and every
other answer leaves FORMAT alone. -/
theorem ruleOf_formatAside (i : Instr) (s : State) (f : BitVec 2) :
    FormatAside s f (ruleOf i s) (ruleOf i (s.setFormat f)) := by
  cases i with
  | inspect => exact .ite (.kept rfl) .written
  | locate => exact .ite (.kept rfl) (.kept rfl)
  | prepare => exact .ite (.kept rfl) (.ite (.ite .written .written) .written)
  | fetch n => exact .ite (.kept rfl) (.ite (.kept rfl) (.kept rfl))
  | pixel x y => exact .kept rfl
  | convert lo hi => exact .kept rfl
  | compose g => exact .ite (.kept rfl) (.ite (.kept rfl) (.kept rfl))

/-- A tainted command's results, with the error code `e`, do not depend on FORMAT. -/
theorem anyResultsOf_formatAside (i : Instr) (s : State) (f : BitVec 2) (e : BitVec 4) :
    FormatAside s f (anyResultsOf i s, e) (anyResultsOf i (s.setFormat f), e) := by
  cases i with
  | inspect => exact .written
  | prepare => exact .written
  | locate => exact .kept rfl
  | fetch n => exact .kept rfl
  | pixel x y => exact .kept rfl
  | convert lo hi => exact .kept rfl
  | compose g => exact .kept rfl

/-- Settles O21: neither a rule nor a tainted command's results look at FORMAT, and a conclusion leaves it alone. -/
theorem formatIsReadByNoCommand : Obligations.FormatIsReadByNoCommand := by
  unfold Obligations.FormatIsReadByNoCommand
  intro i s t f h
  change ∃ f', exec i (s.setFormat f) = .next (t.setFormat f') ∧ _
  rw [exec_eq_runCommand] at h ⊢
  obtain ⟨hs, rfl⟩ | ⟨hs, rfl⟩ := runCommand_next h
  · obtain ⟨f', hrule, hf⟩ := ruleOf_formatAside i s f
    exact ⟨f', by rw [runCommand_untainted (s := s.setFormat f) hs, hrule]; rfl, hf⟩
  · obtain ⟨f', hany, hf⟩ := anyResultsOf_formatAside i s f (Config.anyErr s.draws)
    rw [Prod.mk.injEq] at hany
    exact ⟨f', by rw [runCommand_tainted (s := s.setFormat f) hs, hany.1]; rfl, hf⟩

end Sys2Proof.Machine
end

section
/-! SUPPORT. The host's accesses, one rule for a read and one for a write of each kind of place; the registers' values as
numbers; which commands a write taints. Then the statements about the register map and the two windows. -/

namespace Sys2Proof.Machine

/-! Reads and writes of a target. -/

/-- A read that is no hazard returns the location's value and leaves the block as it is (R67). -/
theorem busRead_value {width addr : Nat} {g : Target} (hg : busTarget width addr = some g) {s : State}
    (hs : s.hazardRead g = false) :
    ∃ t, busRead width addr s = .next t ∧ t.host.data = s.readTarget g ∧ SameBlock s t :=
  ⟨_, busRead_target hg s, by rw [hostRead_value hs]; rfl, hostRead_sameBlock s g⟩

/-- `RD` of a register that is no hazard now. -/
theorem busRead_register (r : Reg) {s : State} (hs : s.hazardRead (.register r) = false) :
    ∃ t, busRead 32 r.offset s = .next t ∧ t.host.data = s.readReg r ∧ SameBlock s t :=
  busRead_value (busTarget_register r) hs

/-- `RD` of a register that is a result of no command. -/
theorem busRead_noResult (r : Reg) (hr : (Target.register r).resultLoc = none) (s : State) :
    ∃ t, busRead 32 r.offset s = .next t ∧ t.host.data = s.readReg r ∧ SameBlock s t :=
  busRead_register r (by rw [State.hazardRead, hr]; rfl)

/-- `WR` of a register. -/
theorem busWrite_register (r : Reg) (v : Word) (s : State) : busWrite 32 r.offset v s = .next (s.writeReg r v) :=
  busWrite_target (busTarget_register r) v s

/-- `WRB` of a ROM byte. -/
theorem busWrite_rom {a : Nat} (ha : a < Config.romCap) (v : Word) (s : State) :
    busWrite 8 (romBase + a) v s = .next ((s.touch .romByte).setRomByte a (v.setWidth 8)) :=
  busWrite_target (busTarget_rom ha) v s

/-- No named register stands above 0x48 (R22). -/
theorem Reg.offset_le (r : Reg) : r.offset ≤ 0x48 := by
  cases r with
  | tileData k => revert k; decide
  | _ => decide

/-- The register an offset names has that offset. -/
theorem Reg.offset_of_ofOffset {off : Nat} {r : Reg} (h : Reg.ofOffset off = some r) : r.offset = off := by
  unfold Reg.ofOffset at h
  split at h <;> cases h <;> rfl

/-- The register window above SHEET_TILES is reserved (R39). -/
theorem busTarget_reserved {off : Nat} (hlo : 0x4C ≤ off) (hhi : off < 0x100) (hoff : off % 4 = 0) :
    busTarget 32 off = some .reserved := by
  have unnamed : Reg.ofOffset off = none := by
    by_contra hsome
    obtain ⟨r, hr⟩ := Option.ne_none_iff_exists'.1 hsome
    have := r.offset_le
    rw [Reg.offset_of_ofOffset hr] at this
    omega
  rw [busTarget, if_pos hhi, if_pos ⟨rfl, hoff⟩, unnamed]
  rfl

/-! The registers' values as numbers. A field with 0s above it reads as its own number. -/

theorem status_toNat (s : State) :
    (s.readReg .status).toNat = 256 * s.err.toNat + if s.busyWord = none then 0 else 1 := by
  simp only [State.readReg, toNat_append_eq, State.busy]
  cases s.busyWord <;> simp <;> omega

theorem tileCount_toNat (s : State) : (s.readReg .tileCount).toNat = s.tileCount :=
  Nat.mod_eq_of_lt (Nat.lt_trans (tileCount_lt s) (by decide))

theorem groupCount_toNat (s : State) : (s.readReg .groupCount).toNat = s.groupCount :=
  Nat.mod_eq_of_lt (Nat.lt_trans (groupCount_lt s) (by decide))

/-- A field with `m` 0 bits above it. -/
theorem toNat_zero_append (m : Nat) {n : Nat} (x : BitVec n) : (0#m ++ x).toNat = x.toNat := by
  simp

/-- Byte `m` of TILE_DATA`k` is tile byte `4k + m` (R34). -/
theorem tileData_byte (s : State) (k : Fin 4) (m : Nat) (hm : m < 4) :
    (s.tileData k).extractLsb' (8 * m) 8 = s.tile[4 * k.val + m] := by
  apply BitVec.eq_of_toNat_eq
  rw [BitVec.extractLsb'_toNat, Nat.shiftRight_eq_div_pow]
  simp only [State.tileData, toNat_append_eq]
  have := s.tile[4 * k.val].isLt
  have := s.tile[4 * k.val + 1].isLt
  have := s.tile[4 * k.val + 2].isLt
  have := s.tile[4 * k.val + 3].isLt
  interval_cases m <;> simp only [Nat.add_zero, Nat.reduceMul, Nat.reducePow] <;> omega

/-! Input hazards. -/

/-- The commands that read the ROM and ROM_LEN: all but PIXEL and CONVERT (R186). -/
theorem isInput_rom {s : State} {l : InputLoc} (hl : l = .romLen ∨ l = .romByte) :
    s.isInput l = true ↔ s.inflight = some .inspect ∨ s.inflight = some .locate ∨ s.inflight = some .prepare ∨
      (∃ n, s.inflight = some (.fetch n)) ∨ ∃ g, s.inflight = some (.compose g) := by
  rw [State.isInput]
  cases s.inflight with
  | none => simp
  | some i => obtain rfl | rfl := hl <;> cases i <;> simp [Instr.inputs]

/-- The commands that read the CHR region's registers: FETCH and COMPOSE (R186). -/
theorem isInput_region {s : State} {l : InputLoc} (hl : l = .chrOffset ∨ l = .chrLength) :
    s.isInput l = true ↔ (∃ n, s.inflight = some (.fetch n)) ∨ ∃ g, s.inflight = some (.compose g) := by
  rw [State.isInput]
  cases s.inflight with
  | none => simp
  | some i => obtain rfl | rfl := hl <;> cases i <;> simp [Instr.inputs]

/-- A SHEET byte is a result of COMPOSE only (R186). -/
theorem hazardRead_sheetByte {s : State} (h : ∀ g, s.inflight ≠ some (.compose g)) (a : Nat) :
    s.hazardRead (.sheetByte a) = false := by
  change s.isResult .sheetByte = false
  rw [State.isResult]
  cases hi : s.inflight with
  | none => rfl
  | some i =>
    cases i with
    | compose g => exact absurd hi (h g)
    | _ => rfl

/-! The statements. -/

/-- Settles O39: with nothing in flight no read is a hazard, and each register's value is its fields' numbers. -/
theorem registerReads : Obligations.RegisterReads := by
  unfold Obligations.RegisterReads
  intro s hidle off value hmem
  have read (r : Reg) (hr : (s.readReg r).toNat = value) :
      ∃ t, busRead 32 r.offset s = .next t ∧ t.host.data.toNat = value ∧ SameBlock s t := by
    obtain ⟨t, ht, hdata, hsame⟩ := busRead_register r (hazardRead_idle hidle _)
    exact ⟨t, ht, by rw [hdata, hr], hsame⟩
  simp only [List.mem_cons, List.not_mem_nil, or_false, Prod.mk.injEq] at hmem
  obtain ⟨rfl, rfl⟩ | ⟨rfl, rfl⟩ | ⟨rfl, rfl⟩ | ⟨rfl, rfl⟩ | ⟨rfl, rfl⟩ | ⟨rfl, rfl⟩ | ⟨rfl, rfl⟩ | ⟨rfl, rfl⟩ |
    ⟨rfl, rfl⟩ | ⟨rfl, rfl⟩ | ⟨rfl, rfl⟩ | ⟨rfl, rfl⟩ | ⟨rfl, rfl⟩ | ⟨rfl, rfl⟩ | ⟨rfl, rfl⟩ := hmem
  · exact read .cmd rfl
  · exact read .status (by rw [status_toNat, if_pos hidle]; rfl)
  · exact read .irqStatus (toNat_zero_append 29 _)
  · exact read .irqEnable (toNat_zero_append 29 _)
  · exact read .romLen rfl
  · exact read .format (toNat_zero_append 30 _)
  · exact read .chrOffset rfl
  · exact read .chrLength rfl
  · exact read .tileCount (by rw [tileCount_toNat, tileCount_eq])
  · exact read .groupCount (by rw [groupCount_toNat, groupCount_eq, tileCount_eq])
  · exact read .tileIndex (toNat_zero_append 4 _)
  · exact read .pix (toNat_zero_append 30 _)
  · exact read .conv (toNat_zero_append 16 _)
  · exact read .sheetGroup (toNat_zero_append 4 _)
  · exact read .sheetTiles (toNat_zero_append 23 _)

/-- Settles O40: STATUS is a result of no command and read-only, and ERR is 0 while a command is in flight. -/
theorem statusReads : Obligations.StatusReads := by
  unfold Obligations.StatusReads
  intro s
  obtain ⟨t, ht, hdata, -⟩ := busRead_noResult .status rfl s
  have value : t.host.data.toNat = 256 * s.err.toNat + if s.busyWord = none then 0 else 1 := by
    rw [hdata, status_toNat]
  refine ⟨t, ht, value, fun v => busWrite_register .status v s, fun hs hbusy => ?_⟩
  have err : s.err = 0 := hs.busyErr (Option.isSome_iff_ne_none.2 hbusy)
  rw [value, err, if_neg hbusy]
  rfl

/-- Settles O41: byte `j mod 4` of TILE_DATA`(j div 4)` is tile byte `j`. -/
theorem tileDataPacking : Obligations.TileDataPacking := by
  unfold Obligations.TileDataPacking
  intro s j hj hidle
  obtain ⟨t, ht, hdata, -⟩ := busRead_register (.tileData ⟨j / 4, by omega⟩) (hazardRead_idle hidle _)
  refine ⟨t, ht, ?_⟩
  rw [hdata, State.readReg, tileData_byte s _ _ (Nat.mod_lt _ (by decide))]
  simp only [Nat.div_add_mod]

/-- Settles O42: none of these places has a write, and a reserved offset reads 0. -/
theorem ignoredWrites : Obligations.IgnoredWrites := by
  unfold Obligations.IgnoredWrites
  intro s v
  refine ⟨fun off hlo hhi hoff => ?_, fun off hmem => ?_, fun a ha => busWrite_target (busTarget_sheet ha) v s⟩
  · have hg := busTarget_reserved hlo hhi hoff
    exact ⟨busWrite_target hg v s, busRead_value hg rfl⟩
  · simp only [List.mem_cons, List.not_mem_nil, or_false] at hmem
    obtain rfl | rfl | rfl | rfl | rfl | rfl | rfl | rfl | rfl | rfl | rfl | rfl | rfl := hmem
    · exact busWrite_register .status v s
    · exact busWrite_register .format v s
    · exact busWrite_register .tileCount v s
    · exact busWrite_register .groupCount v s
    · exact busWrite_register .tileIndex v s
    · exact busWrite_register (.tileData 0) v s
    · exact busWrite_register (.tileData 1) v s
    · exact busWrite_register (.tileData 2) v s
    · exact busWrite_register (.tileData 3) v s
    · exact busWrite_register .pix v s
    · exact busWrite_register .conv v s
    · exact busWrite_register .sheetGroup v s
    · exact busWrite_register .sheetTiles v s

/-- Settles O43: the acknowledge masks each bit by the negated bit of the value written. -/
theorem irqAcknowledge : Obligations.IrqAcknowledge := by
  unfold Obligations.IrqAcknowledge
  intro s v
  refine ⟨_, busWrite_register .irqStatus v s, fun i hi => ?_⟩
  simp [hi]

/-- Settles O44: the register holds the value's low three bits, and a completion leaves it (`engineStep_frame`). -/
theorem irqEnableHoldsThreeBits : Obligations.IrqEnableHoldsThreeBits := by
  unfold Obligations.IrqEnableHoldsThreeBits
  intro s v
  have low : (v.setWidth 3).toNat = v.toNat % 8 := BitVec.toNat_setWidth 3 v
  refine ⟨v.setWidth 3, busWrite_register .irqEnable v s, low, ?_, fun w t h => ?_⟩
  · obtain ⟨t, ht, hdata, -⟩ := busRead_noResult .irqEnable rfl (s.setIrqEnable v)
    exact ⟨t, ht, by rw [hdata, State.readReg, toNat_zero_append]; exact low⟩
  · obtain ⟨-, henable, -⟩ := engineStep_frame h
    exact henable

/-- Settles O46: the value stored is the clamped one, and a completion leaves it (`engineStep_frame`). -/
theorem romLenClamps : Obligations.RomLenClamps := by
  unfold Obligations.RomLenClamps
  intro s v
  refine ⟨clampLen v, _, busWrite_register .romLen v s, clampLen_toNat v, ?_, fun w t h => ?_⟩
  · obtain ⟨t, ht, hdata, -⟩ := busRead_noResult .romLen rfl ((s.touch .romLen).setRomLen v)
    exact ⟨t, ht, hdata⟩
  · obtain ⟨-, -, hlen, -⟩ := engineStep_frame h
    exact hlen

/-- Settles O47: both counts are CHR_LENGTH's by their definition, and they are results of no command (log entry 5). -/
theorem countsFollowChrLength : Obligations.CountsFollowChrLength := by
  unfold Obligations.CountsFollowChrLength
  intro s
  refine ⟨tileCount_eq s, tileCount_lt s, groupCount_eq s, groupCount_lt s, fun _ _ => ⟨?_, ?_⟩, fun v => ?_⟩
  · obtain ⟨t, ht, hdata, -⟩ := busRead_noResult .tileCount rfl s
    exact ⟨t, ht, by rw [hdata, tileCount_toNat]⟩
  · obtain ⟨t, ht, hdata, -⟩ := busRead_noResult .groupCount rfl s
    exact ⟨t, ht, by rw [hdata, groupCount_toNat]⟩
  · refine ⟨_, _, _, _, busWrite_register .chrLength v s, rfl, tileCount_eq _, ?_,
      busWrite_register .chrOffset v s, rfl, rfl, rfl⟩
    rw [groupCount_eq, tileCount_eq]
    rfl

/-- Settles O48: a write of one cell is read back there and nowhere else, and no ROM byte is a command's result. -/
theorem romByteReadsBack : Obligations.RomByteReadsBack := by
  unfold Obligations.RomByteReadsBack
  intro s a v ha
  have bytes (c : Nat) := romByte_setRomByte (s.touch .romByte) a c (v.setWidth 8)
  refine ⟨_, _, busWrite_rom ha v s, bytes, ?_⟩
  obtain ⟨t, ht, hdata, -⟩ :=
    busRead_value (busTarget_rom ha) (s := (s.touch .romByte).setRomByte a (v.setWidth 8)) rfl
  refine ⟨t, ht, ?_⟩
  rw [hdata, State.readTarget, toNat_zero_append, bytes a, if_pos rfl, BitVec.toNat_setWidth]

/-- Settles O50: the write raises the hazard flag by its location's class, and the two lemmas on inputs say which commands
read that class. -/
theorem inputHazardTaints : Obligations.InputHazardTaints := by
  unfold Obligations.InputHazardTaints
  intro s v readsRom readsRegion
  have taints (l : InputLoc) : (s.touch l).tainted = true ↔ s.tainted = true ∨ s.isInput l = true := by simp
  have rom {l : InputLoc} (hl : l = .romLen ∨ l = .romByte) :
      (s.touch l).tainted = true ↔ s.tainted = true ∨ readsRom := (taints l).trans (or_congr_right (isInput_rom hl))
  have region {l : InputLoc} (hl : l = .chrOffset ∨ l = .chrLength) :
      (s.touch l).tainted = true ↔ s.tainted = true ∨ readsRegion :=
    (taints l).trans (or_congr_right (isInput_region hl))
  refine ⟨⟨_, busWrite_register .romLen v s, rfl, rom (.inl rfl)⟩,
    ⟨_, busWrite_register .chrOffset v s, rfl, region (.inl rfl)⟩,
    ⟨_, busWrite_register .chrLength v s, rfl, region (.inr rfl)⟩,
    fun a ha => ⟨_, busWrite_rom ha v s, ?_, rom (.inr rfl)⟩⟩
  rw [romByte_setRomByte, if_pos rfl]

/-- Settles O53: neither read is a hazard, and a byte reads with 0s above it. -/
theorem bufferByteReads : Obligations.BufferByteReads := by
  unfold Obligations.BufferByteReads
  intro s a
  refine ⟨fun ha hcompose => ?_, fun ha => ?_⟩
  · obtain ⟨t, ht, hdata, hsame⟩ := busRead_value (busTarget_sheet ha) (hazardRead_sheetByte hcompose a)
    exact ⟨t, ht, by rw [hdata, State.readTarget, toNat_zero_append], hsame⟩
  · obtain ⟨t, ht, hdata, hsame⟩ := busRead_value (busTarget_rom ha) (s := s) rfl
    exact ⟨t, ht, by rw [hdata, State.readTarget, toNat_zero_append], hsame⟩

end Sys2Proof.Machine
end

section
/-! SUPPORT. The two buffers seen from the commands: who writes SHEET (R64), and that no rule reads a ROM byte from
ROM_LEN on (R61, R62). Then the statements about the two. -/

namespace Sys2Proof.Machine

/-! The SHEET buffer. -/

/-- An untainted command's answer is the conclusion of what its rule answers. -/
theorem exec_untainted {i : Instr} {s t : State} (hs : s.tainted = false) (h : exec i s = .next t) :
    t = (ruleOf i s).1.conclude (ruleOf i s).2.code := by
  rw [exec_eq_runCommand, runCommand_untainted hs, Host.Outcome.next.injEq] at h
  exact h.symm

/-- A raster has a known value at exactly the addresses of the SHEET buffer (R63, R64). -/
theorem lookupCell_composeCells_isSome (s : State) (first n a : Nat) :
    (lookupCell (composeCells s first n) a).isSome = true ↔ a < sheetBytes := by
  constructor
  · intro h
    obtain ⟨v, hv⟩ := Option.isSome_iff_exists.1 h
    exact composeCells_bound (mem_of_lookupCell hv)
  · intro ha
    rw [sheetBytes] at ha
    have place : a = sheetAddr (a / 3 % 128) (a / 384) (a % 3) := by
      rw [sheetAddr, sheetSide]
      omega
    rw [place, lookupCell_composeCells s first n _ _ _ (by omega) (by omega) (by omega)]
    rfl

/-- A command other than COMPOSE leaves the SHEET buffer as it is (R64). -/
theorem exec_sheet_of_ne_compose {i : Instr} {s t : State} (hi : ∀ g, i ≠ .compose g) (h : exec i s = .next t) :
    t.sheet = s.sheet := by
  obtain ⟨u, code, hu, rfl | rfl⟩ := exec_next h
  all_goals
    cases hu with
    | compose k => exact absurd rfl (hi k)
    | _ => rfl

/-- An untainted COMPOSE fails and leaves the SHEET buffer as it is, or ends with code 0 and stores a raster (R143). -/
theorem exec_compose_sheet {g : Nat} {s t : State} (hs : s.tainted = false) (h : exec (.compose g) s = .next t) :
    (t.err ≠ 0 ∧ t.sheet = s.sheet) ∨
      (t.err = 0 ∧ ∃ first n, t.sheet = { cells := composeCells s first n, draw := 0 }) := by
  rw [exec_untainted hs h, ruleOf]
  obtain ⟨-, h⟩ | ⟨-, -, h⟩ | ⟨-, -, h⟩ := composeRule_cases g s <;> rw [h]
  · exact .inl ⟨nofun, rfl⟩
  · exact .inl ⟨nofun, rfl⟩
  · exact .inr ⟨rfl, _, _, rfl⟩

/-- Settles O18: a COMPOSE with code 0 stores a raster, which is the whole buffer; a COMPOSE that fails and every other
command leave the buffer as it is. -/
theorem onlyComposeWritesSheet : Obligations.OnlyComposeWritesSheet := by
  unfold Obligations.OnlyComposeWritesSheet
  intro i s t hs h composed
  by_cases hi : ∃ g, i = .compose g
  · obtain ⟨g, rfl⟩ := hi
    obtain ⟨herr, hsheet⟩ | ⟨herr, first, n, hsheet⟩ := exec_compose_sheet hs h
    · exact ⟨fun hc => absurd hc.2 herr, fun _ => sheetByte_congr hsheet⟩
    · refine ⟨fun _ a => ?_, fun hc => absurd ⟨⟨g, rfl⟩, herr⟩ hc⟩
      rw [hsheet]
      exact lookupCell_composeCells_isSome s first n a
  · exact ⟨fun hc => absurd hc.1 hi,
      fun _ => sheetByte_congr (exec_sheet_of_ne_compose (fun g hg => hi ⟨g, hg⟩) h)⟩

/-! The ROM buffer from ROM_LEN on. A rule's answers on two ROM buffers that agree below ROM_LEN are compared check by
check; what a check has passed bounds the addresses read after it. -/

/-- `s` with `m` for its ROM buffer. -/
def State.withRom (s : State) (m : Memory) : State := { s with rom := m }

@[simp] theorem State.withRom_groupTiles (s : State) (m : Memory) (g : Nat) :
    (s.withRom m).groupTiles g = s.groupTiles g := rfl

/-- `r'` is `r` but for the ROM buffer, which is `m`. -/
def RomAside (m : Memory) (r r' : State × ErrCode) : Prop := r' = (r.1.withRom m, r.2)

/-- A check that does not read the ROM keeps the relation; each branch may use what the check has found. -/
theorem RomAside.ite {m : Memory} {c : Prop} [Decidable c] {r r' q q' : State × ErrCode}
    (hr : c → RomAside m r r') (hq : ¬c → RomAside m q q') :
    RomAside m (if c then r else q) (if c then r' else q') := by
  split
  · exact hr ‹_›
  · exact hq ‹_›

/-- The RegionCheck reads no ROM byte but header bytes 4 to 6 (R150). -/
theorem prepareRegion_romAside {m : Memory} {s : State} (h4 : (s.withRom m).romByte 4 = s.romByte 4)
    (h5 : (s.withRom m).romByte 5 = s.romByte 5) (h6 : (s.withRom m).romByte 6 = s.romByte 6) :
    RomAside m (prepareRegion s) (prepareRegion (s.withRom m)) := by
  unfold prepareRegion
  rw [h4, h5, h6]
  exact .ite (fun _ => rfl) fun _ => rfl

/-- An image that passes the SizeCheck has its 16 header bytes below ROM_LEN (R60, R162). -/
theorem headerSize_le_of_not_tooShort {s : State} (h : ¬s.tooShort = true) : 16 ≤ s.romLen.toNat := by
  rw [State.tooShort, decide_eq_true_eq, headerSize] at h
  omega

/-- In a region that passes the region check, the bytes of each tile stand below ROM_LEN (R61, R62, R120). -/
theorem tileAddr_lt_romLen {s : State} (hregion : ¬s.regionPastRom = true) {n j : Nat} (hn : n < s.tileCount)
    (hj : j < 16) : s.tileAddr n j < s.romLen.toNat := by
  simp only [State.regionPastRom, State.endsPastRom, decide_eq_true_eq] at hregion
  rw [tileCount_eq] at hn
  rw [State.tileAddr, tileBytes]
  omega

/-- The tiles of a group are tiles of the region (R141). -/
theorem group_tile_lt_tileCount {s : State} {g i : Nat} (h : i < s.groupTiles g) :
    tilesPerSheet * g + i < s.tileCount := by
  rw [State.groupTiles] at h
  omega

section
variable {s : State} {m : Memory}
  (hrom : ∀ a, a < s.romLen.toNat → (s.withRom m).romByte a = s.romByte a)
include hrom

theorem header_withRom (hshort : ¬s.tooShort = true) : (s.withRom m).header = s.header := by
  have := headerSize_le_of_not_tooShort hshort
  exact congrArg Vector.ofFn (funext fun k => hrom k.val (by omega))

theorem romTile_withRom (hregion : ¬s.regionPastRom = true) {n : Nat} (hn : n < s.tileCount) :
    (s.withRom m).romTile n = s.romTile n :=
  congrArg Vector.ofFn (funext fun j => hrom _ (tileAddr_lt_romLen hregion hn j.isLt))

/-- Group `g` has the same colour at every pixel: a placed tile's bytes stand below ROM_LEN, and black reads none. -/
theorem spanColour_withRom (hregion : ¬s.regionPastRom = true) (g y col x : Nat) :
    spanColour (s.withRom m) (tilesPerSheet * g) (s.groupTiles g) y col x =
      spanColour s (tilesPerSheet * g) (s.groupTiles g) y col x := by
  unfold spanColour
  split
  · rename_i hplaced
    have byte {j : Nat} (hj : j < 16) := hrom _ (tileAddr_lt_romLen hregion (group_tile_lt_tileCount hplaced) hj)
    have lo := byte (j := y % 8) (by omega)
    have hi := byte (j := y % 8 + 8) (by omega)
    exact congrArg₂ (fun lo hi => palette (pix lo hi x)) lo hi
  · rfl

theorem composeCells_withRom (hregion : ¬s.regionPastRom = true) (g : Nat) :
    composeCells (s.withRom m) (tilesPerSheet * g) (s.groupTiles g) =
      composeCells s (tilesPerSheet * g) (s.groupTiles g) := by
  have spans (y col : Nat) := funext (spanColour_withRom hrom hregion g y col)
  simp only [composeCells, composeSpan_eq, spans]

/-- No rule reads a ROM byte from ROM_LEN on: the header commands read theirs after the SizeCheck, FETCH and COMPOSE
after the region check, PIXEL and CONVERT none. -/
theorem ruleOf_romAside (i : Instr) : RomAside m (ruleOf i s) (ruleOf i (s.withRom m)) := by
  have region (hshort : ¬s.tooShort = true) : (s.withRom m).romByte 4 = s.romByte 4 ∧
      (s.withRom m).romByte 5 = s.romByte 5 ∧ (s.withRom m).romByte 6 = s.romByte 6 := by
    have := headerSize_le_of_not_tooShort hshort
    exact ⟨hrom 4 (by omega), hrom 5 (by omega), hrom 6 (by omega)⟩
  cases i with
  | inspect =>
    refine .ite (fun _ => rfl) fun hshort => ?_
    rw [header_withRom hrom hshort]
    rfl
  | locate =>
    refine .ite (fun _ => rfl) fun hshort => ?_
    obtain ⟨h4, h5, h6⟩ := region hshort
    rw [h4, h5, h6]
    rfl
  | prepare =>
    refine .ite (fun _ => rfl) fun hshort => ?_
    obtain ⟨h4, h5, h6⟩ := region hshort
    rw [header_withRom hrom hshort]
    exact .ite (fun _ => prepareRegion_romAside h4 h5 h6) fun _ => rfl
  | fetch n =>
    refine .ite (fun _ => rfl) fun hregion => .ite (fun _ => rfl) fun hindex => ?_
    rw [romTile_withRom hrom hregion (Nat.lt_of_not_le hindex)]
    rfl
  | pixel x y => rfl
  | convert lo hi => rfl
  | compose g =>
    refine .ite (fun _ => rfl) fun hregion => .ite (fun _ => rfl) fun _ => ?_
    simp only [State.withRom_groupTiles, composeCells_withRom hrom hregion g]
    rfl

end

/-- Settles O19: the rule answers alike on both ROM buffers, and a conclusion leaves the ROM alone. -/
theorem bytesPastRomLenHaveNoEffect : Obligations.BytesPastRomLenHaveNoEffect := by
  unfold Obligations.BytesPastRomLenHaveNoEffect
  intro i s t m hs hrom h
  have hrule : ruleOf i (s.withRom m) = ((ruleOf i s).1.withRom m, (ruleOf i s).2) := ruleOf_romAside hrom i
  change exec i (s.withRom m) = _
  rw [exec_untainted hs h, exec_eq_runCommand, runCommand_untainted (s := s.withRom m) hs, hrule]
  rfl

end Sys2Proof.Machine
end

section
/-! SUPPORT. Which host accesses have a target, and when a read is a hazard (R66 to R69, R187). Then the statements
about the bus. -/

namespace Sys2Proof.Machine

/-- The bus map gives an access no meaning exactly outside the three windows and their widths (R66, R68, R69). -/
theorem busTarget_eq_none_iff (width addr : Nat) :
    busTarget width addr = none ↔
      ¬((addr < 0x100 ∧ width = 32 ∧ addr % 4 = 0) ∨ (0x10000 ≤ addr ∧ addr < 0x1C000 ∧ width = 8) ∨
        (0x1000000 ≤ addr ∧ addr < 0x1000000 + Config.romCap ∧ width = 8)) := by
  simp only [busTarget, withinRomCap_eq_true]
  unfold sheetBase romBase sheetBytes
  split_ifs <;> simp only [false_iff, true_iff] <;> omega

theorem busRead_refused {width addr : Nat} (h : busTarget width addr = none) (s : State) :
    busRead width addr s = .refused .hostBusError := by
  rw [busRead, h]

theorem busWrite_refused {width addr : Nat} (h : busTarget width addr = none) (v : Word) (s : State) :
    busWrite width addr v s = .refused .hostBusError := by
  rw [busWrite, h]

/-- Settles O38: an access answers a next state where the bus map gives it a target, and is refused elsewhere. -/
theorem busAccessRules : Obligations.BusAccessRules := by
  unfold Obligations.BusAccessRules
  intro width addr s legal
  have hnone : busTarget width addr = none ↔ ¬legal := busTarget_eq_none_iff width addr
  refine ⟨fun hlegal => ?_, fun hillegal => ?_⟩
  · obtain ⟨g, hg⟩ := Option.ne_none_iff_exists'.1 fun h => hnone.1 h hlegal
    exact ⟨⟨_, busRead_target hg s⟩, fun v => ⟨_, busWrite_target hg v s⟩⟩
  · have hg := hnone.2 hillegal
    exact ⟨busRead_refused hg s, fun v => busWrite_refused hg v s⟩

/-- A read is a hazard exactly where the command in flight lists the location among its results (R186, R187). -/
theorem hazardRead_eq_true_iff (s : State) (g : Target) :
    s.hazardRead g = true ↔ ∃ i l, s.inflight = some i ∧ g.resultLoc = some l ∧ l ∈ i.results := by
  simp only [State.hazardRead, State.isResult, Option.any_eq_true, List.contains_iff_mem]
  exact ⟨fun ⟨l, hl, i, hi, hmem⟩ => ⟨i, l, hi, hl, hmem⟩, fun ⟨i, l, hi, hl, hmem⟩ => ⟨l, hl, i, hi, hmem⟩⟩

/-- Settles O49: a read changes the host's data and at most the count of draws, and returns the value where it is no
hazard. -/
theorem readsHaveNoEffect : Obligations.ReadsHaveNoEffect := by
  unfold Obligations.ReadsHaveNoEffect
  intro s width addr g hg
  obtain ⟨hprogram, -, -⟩ := hostRead_host s g
  refine ⟨_, busRead_target hg s, hostRead_sameBlock s g, hprogram, fun hsafe => ?_⟩
  have hs : s.hazardRead g = false := by
    obtain hidle | hnoResult := hsafe
    · exact hazardRead_idle hidle g
    · refine Bool.eq_false_iff.2 fun hazard => ?_
      obtain ⟨i, l, hi, hl, hmem⟩ := (hazardRead_eq_true_iff s g).1 hazard
      exact hnoResult i l hi hl hmem
  rw [hostRead_value hs]
  rfl

end Sys2Proof.Machine
end

section
/-! SUPPORT. The word in flight: what the host's step can do to it (R74, R166, R182), and `step`'s third case, an idle
block. Then the statements about the two. -/

namespace Sys2Proof.Machine

/-- No host write changes the word in flight: a CMD write is an overrun (R74, R166). -/
theorem hostWrite_busyWord {s : State} {w : Word} (hb : s.busyWord = some w) (g : Target) (v : Word) :
    (s.hostWrite g v).busyWord = some w := by
  have submit : s.submit v = s.overrun := if_pos (by rw [State.busy, hb]; rfl)
  obtain h | h | h | h | h | h | h | ⟨a, -, h⟩ := hostWrite_cases s g v <;> rw [h]
  case inr.inl => rw [submit]; exact hb
  all_goals exact hb

/-- The host's step leaves the word in flight, or abandons it by a reset (R182). -/
theorem hostStep_busyWord {s t : State} {w : Word} (hb : s.busyWord = some w) (h : hostStep s = .next t) :
    t.busyWord = some w ∨ t.busyWord = none := by
  obtain rfl | ⟨op, rest, -, ⟨_, _, g, -, -, rfl⟩ | ⟨_, _, v, g, -, -, rfl⟩ | ⟨-, rfl⟩ | ⟨hsame, -⟩⟩ := hostStep_cases h
  · exact .inl hb
  · exact .inl ((hostRead_sameBlock _ g).busyWord.trans hb)
  · exact .inl (hostWrite_busyWord (s := s.setProgram rest) hb g v)
  · exact .inr rfl
  · exact .inl (hsame.busyWord.trans hb)

/-- Settles O12: a completion clears the latch, and the host's step keeps the word or abandons it. -/
theorem wordInFlightIsFixed : Obligations.WordInFlightIsFixed := by
  unfold Obligations.WordInFlightIsFixed
  intro s t w hb h
  obtain ⟨_, h⟩ | h | h := step_cases h
  · obtain ⟨hidle, -⟩ := engineStep_frame h
    exact .inr hidle
  · exact hostStep_busyWord (s := s.tick) hb h
  · exact hostStep_busyWord hb h

/-- With nothing in flight, a step is the host's (R71). -/
theorem step_idle {s : State} (hb : s.busyWord = none) : step s = hostStep s := by
  rw [step, hb]

/-- The ENGINE's step on a legal word is its command (R90, R165). -/
theorem engineStep_of_decode {w : Word} {i : Instr} (h : decode w = .ok i) (s : State) : engineStep w s = exec i s := by
  rw [engineStep, h]

/-- Settles O6: `step`'s three cases, and the decoded command behind the ENGINE's step. -/
theorem stepRunsDecodedCommand : Obligations.StepRunsDecodedCommand := by
  unfold Obligations.StepRunsDecodedCommand
  intro s
  refine ⟨fun w hb hw => ⟨step_engine hb hw, fun i hi => ?_⟩, fun w hb hw => step_hostFirst hb hw, step_idle⟩
  exact (step_engine hb hw).trans (engineStep_of_decode hi s)

end Sys2Proof.Machine
end

section
/-! SUPPORT. Command words as numbers: the opcode and the operand field of a word (R8, R80 to R87), and what each opcode
decodes to (R90). Then the statements about the encoding and about illegal words. -/

namespace Sys2Proof

/-- The opcode of a command's word, bits [31:28] (R81 to R87). -/
def Instr.opcode : Instr → Nat
  | .inspect => 0x1
  | .locate => 0x2
  | .prepare => 0x3
  | .fetch _ => 0x4
  | .pixel _ _ => 0x5
  | .convert _ _ => 0x6
  | .compose _ => 0x7

/-- The operand field of a command's word, bits [27:0], as a number (R81 to R87). -/
def Instr.operandField : Instr → Nat
  | .inspect => 0
  | .locate => 0
  | .prepare => 0
  | .fetch t => t
  | .pixel x y => 8 * y.toNat + x.toNat
  | .convert lo hi => 256 * hi.toNat + lo.toNat
  | .compose g => g

theorem fitsOperand_iff (n : Nat) : fitsOperand n = true ↔ n < 2 ^ 28 := decide_eq_true_iff

theorem Instr.operandField_lt {i : Instr} (h : i.wellFormed = true) : i.operandField < 2 ^ 28 := by
  cases i with
  | fetch n | compose n => exact (fitsOperand_iff n).1 h
  | pixel p q | convert p q =>
    rw [operandField]
    omega
  | _ => decide

/-- A well-formed command's word is its opcode above its operand field (R80). -/
theorem encode_toNat {i : Instr} (h : i.wellFormed = true) :
    (encode i).toNat = i.opcode * 2 ^ 28 + i.operandField := by
  have hfield := Instr.operandField_lt h
  cases i with
  | fetch n | compose n =>
    simp only [encode, toNat_append_eq, Instr.opcode, Instr.operandField, BitVec.toNat_ofNat] at hfield ⊢
    omega
  | pixel p q | convert p q =>
    simp only [encode, toNat_append_eq, Instr.opcode, Instr.operandField, BitVec.toNat_ofNat]
    omega
  | _ => rfl

/-! The fields `decode` looks at, by the word's number. -/

section
variable (w : Word)

theorem opcode_bits : (bits w 28 4).toNat = w.toNat / 2 ^ 28 := by
  rw [toNat_bits]
  omega

theorem operand_bits : (bits w 0 28).toNat = w.toNat % 2 ^ 28 := by
  rw [toNat_bits, Nat.pow_zero, Nat.div_one]

/-- The must-be-0 bits from `lo` on are those of the operand field (R85, R86, R89). -/
theorem upper_operand_bits {lo n : Nat} (h : lo + n = 28) : (bits w lo n).toNat = w.toNat % 2 ^ 28 / 2 ^ lo := by
  rw [toNat_bits, ← h, Nat.pow_add, Nat.mod_mul_right_div_self]

/-- A field inside the operand field (R85, R86). -/
theorem operand_subfield {lo n : Nat} (h : lo + n ≤ 28) :
    bits w lo n = BitVec.ofNat n (w.toNat % 2 ^ 28 / 2 ^ lo % 2 ^ n) := by
  obtain ⟨k, hk⟩ := Nat.exists_eq_add_of_le h
  apply BitVec.eq_of_toNat_eq
  rw [toNat_bits, BitVec.toNat_ofNat, Nat.mod_mod, hk, Nat.add_assoc, Nat.pow_add, Nat.mod_mul_right_div_self,
    Nat.mod_mod_of_dvd _ (Nat.pow_dvd_pow 2 (Nat.le_add_right n k))]

end

/-! What each opcode decodes to (R90). -/

section
variable {w : Word}

theorem decode_inspect (h : w.toNat / 2 ^ 28 = 0x1) :
    decode w = if w.toNat % 2 ^ 28 = 0 then .ok .inspect else .error .mustBeZero := by
  rw [decode, opcode_bits, h]
  simp only [whenZero_eq, operand_bits]

theorem decode_locate (h : w.toNat / 2 ^ 28 = 0x2) :
    decode w = if w.toNat % 2 ^ 28 = 0 then .ok .locate else .error .mustBeZero := by
  rw [decode, opcode_bits, h]
  simp only [whenZero_eq, operand_bits]

theorem decode_prepare (h : w.toNat / 2 ^ 28 = 0x3) :
    decode w = if w.toNat % 2 ^ 28 = 0 then .ok .prepare else .error .mustBeZero := by
  rw [decode, opcode_bits, h]
  simp only [whenZero_eq, operand_bits]

theorem decode_fetch (h : w.toNat / 2 ^ 28 = 0x4) : decode w = .ok (.fetch (w.toNat % 2 ^ 28)) := by
  rw [decode, opcode_bits, h]
  simp only [operand_bits]

theorem decode_pixel (h : w.toNat / 2 ^ 28 = 0x5) :
    decode w = if w.toNat % 2 ^ 28 / 2 ^ 6 = 0 then
      .ok (.pixel (BitVec.ofNat 3 (w.toNat % 2 ^ 28 % 8)) (BitVec.ofNat 3 (w.toNat % 2 ^ 28 / 8 % 8)))
    else .error .mustBeZero := by
  rw [decode, opcode_bits, h]
  simp only [whenZero_eq, upper_operand_bits w (lo := 6) (n := 22) rfl,
    operand_subfield w (lo := 0) (n := 3) (by decide), operand_subfield w (lo := 3) (n := 3) (by decide)]
  rw [Nat.pow_zero, Nat.div_one]
  rfl

theorem decode_convert (h : w.toNat / 2 ^ 28 = 0x6) :
    decode w = if w.toNat % 2 ^ 28 / 2 ^ 16 = 0 then
      .ok (.convert (BitVec.ofNat 8 (w.toNat % 2 ^ 28 % 256)) (BitVec.ofNat 8 (w.toNat % 2 ^ 28 / 256 % 256)))
    else .error .mustBeZero := by
  rw [decode, opcode_bits, h]
  simp only [whenZero_eq, upper_operand_bits w (lo := 16) (n := 12) rfl,
    operand_subfield w (lo := 0) (n := 8) (by decide), operand_subfield w (lo := 8) (n := 8) (by decide)]
  rw [Nat.pow_zero, Nat.div_one]
  rfl

theorem decode_compose (h : w.toNat / 2 ^ 28 = 0x7) : decode w = .ok (.compose (w.toNat % 2 ^ 28)) := by
  rw [decode, opcode_bits, h]
  simp only [operand_bits]

theorem decode_reserved (h : w.toNat / 2 ^ 28 = 0x0 ∨ 0x8 ≤ w.toNat / 2 ^ 28) :
    decode w = .error .reservedOpcode := by
  rw [decode, opcode_bits]
  split
  case h_8 => rfl
  all_goals omega

end

/-! Decoding and encoding. -/

/-- A word with the opcode and the operand field of a well-formed command decodes to it. -/
theorem decode_of_fields {w : Word} {i : Instr} (hwf : i.wellFormed = true) (hop : w.toNat / 2 ^ 28 = i.opcode)
    (hfield : w.toNat % 2 ^ 28 = i.operandField) : decode w = .ok i := by
  cases i with
  | inspect => exact (decode_inspect hop).trans (if_pos hfield)
  | locate => exact (decode_locate hop).trans (if_pos hfield)
  | prepare => exact (decode_prepare hop).trans (if_pos hfield)
  | fetch t => rw [decode_fetch hop, hfield, Instr.operandField]
  | compose g => rw [decode_compose hop, hfield, Instr.operandField]
  | pixel x y =>
    rw [decode_pixel hop, hfield, Instr.operandField, if_pos (by omega), Nat.mul_add_mod, Nat.mul_add_div (by decide),
      Nat.mod_eq_of_lt x.isLt, Nat.div_eq_of_lt x.isLt, Nat.add_zero, Nat.mod_eq_of_lt y.isLt]
    simp only [BitVec.ofNat_toNat, BitVec.setWidth_eq]
  | convert lo hi =>
    rw [decode_convert hop, hfield, Instr.operandField, if_pos (by omega), Nat.mul_add_mod, Nat.mul_add_div (by decide),
      Nat.mod_eq_of_lt lo.isLt, Nat.div_eq_of_lt lo.isLt, Nat.add_zero, Nat.mod_eq_of_lt hi.isLt]
    simp only [BitVec.ofNat_toNat, BitVec.setWidth_eq]

/-- A check that passed had its condition, and gave its command. -/
theorem ok_of_ite_mustBeZero {c : Prop} [Decidable c] {i j : Instr}
    (h : (if c then .ok j else .error .mustBeZero : Except DecodeError Instr) = .ok i) : c ∧ j = i := by
  split at h
  · exact ⟨‹_›, Except.ok.inj h⟩
  · cases h

/-- A word that decodes has the opcode and the operand field of a well-formed command. -/
theorem fields_of_decode {w : Word} {i : Instr} (h : decode w = .ok i) :
    i.wellFormed = true ∧ w.toNat / 2 ^ 28 = i.opcode ∧ w.toNat % 2 ^ 28 = i.operandField := by
  have hlt : w.toNat % 2 ^ 28 < 2 ^ 28 := Nat.mod_lt _ (by decide)
  have hop : w.toNat / 2 ^ 28 = 1 ∨ w.toNat / 2 ^ 28 = 2 ∨ w.toNat / 2 ^ 28 = 3 ∨ w.toNat / 2 ^ 28 = 4 ∨
      w.toNat / 2 ^ 28 = 5 ∨ w.toNat / 2 ^ 28 = 6 ∨ w.toNat / 2 ^ 28 = 7 ∨
      (w.toNat / 2 ^ 28 = 0 ∨ 8 ≤ w.toNat / 2 ^ 28) := by omega
  obtain hop | hop | hop | hop | hop | hop | hop | hop := hop
  · rw [decode_inspect hop] at h
    obtain ⟨hfield, rfl⟩ := ok_of_ite_mustBeZero h
    exact ⟨rfl, hop, hfield⟩
  · rw [decode_locate hop] at h
    obtain ⟨hfield, rfl⟩ := ok_of_ite_mustBeZero h
    exact ⟨rfl, hop, hfield⟩
  · rw [decode_prepare hop] at h
    obtain ⟨hfield, rfl⟩ := ok_of_ite_mustBeZero h
    exact ⟨rfl, hop, hfield⟩
  · rw [decode_fetch hop] at h
    cases h
    exact ⟨(fitsOperand_iff _).2 hlt, hop, rfl⟩
  · rw [decode_pixel hop] at h
    obtain ⟨hzero, rfl⟩ := ok_of_ite_mustBeZero h
    refine ⟨rfl, hop, ?_⟩
    simp only [Instr.operandField, BitVec.toNat_ofNat]
    omega
  · rw [decode_convert hop] at h
    obtain ⟨hzero, rfl⟩ := ok_of_ite_mustBeZero h
    refine ⟨rfl, hop, ?_⟩
    simp only [Instr.operandField, BitVec.toNat_ofNat]
    omega
  · rw [decode_compose hop] at h
    cases h
    exact ⟨(fitsOperand_iff _).2 hlt, hop, rfl⟩
  · rw [decode_reserved hop] at h
    cases h

/-- A well-formed command's word decodes to it. -/
theorem decode_encode {i : Instr} (hi : i.wellFormed = true) : decode (encode i) = .ok i := by
  have hw := encode_toNat hi
  have hfield := Instr.operandField_lt hi
  exact decode_of_fields hi (by omega) (by omega)

/-- Settles O1: a word's number is its opcode above its operand field, and these two fix what it decodes to. -/
theorem decodeOfEncode : Obligations.DecodeOfEncode := by
  unfold Obligations.DecodeOfEncode
  exact fun _ => decode_encode

/-- Settles O2: the word and the command's own word have the same opcode and the same operand field. -/
theorem encodeOfDecode : Obligations.EncodeOfDecode := by
  unfold Obligations.EncodeOfDecode
  intro w i h
  obtain ⟨hi, hop, hfield⟩ := fields_of_decode h
  refine ⟨hi, BitVec.eq_of_toNat_eq ?_⟩
  rw [encode_toNat hi, ← hop, ← hfield, Nat.div_add_mod']

/-- Settles O3: one lemma for each opcode, and `engineStep` by its definition. -/
theorem decodeByFields : Obligations.DecodeByFields := by
  unfold Obligations.DecodeByFields
  intro w op field
  exact ⟨decode_inspect, decode_locate, decode_prepare, decode_fetch, decode_pixel, decode_convert, decode_compose,
    decode_reserved, fun _ => rfl⟩

/-- Settles O4: the words evaluate. -/
theorem decodeSpecWords : Obligations.DecodeSpecWords := by
  unfold Obligations.DecodeSpecWords
  decide

namespace Machine

/-- A reserved opcode or a set must-be-0 bit makes a word illegal (R88, R89). -/
theorem decode_illegal {w : Word}
    (h : w.toNat / 2 ^ 28 = 0 ∨ 8 ≤ w.toNat / 2 ^ 28 ∨
      ((w.toNat / 2 ^ 28 = 1 ∨ w.toNat / 2 ^ 28 = 2 ∨ w.toNat / 2 ^ 28 = 3) ∧ w.toNat % 2 ^ 28 ≠ 0) ∨
      (w.toNat / 2 ^ 28 = 5 ∧ 2 ^ 6 ≤ w.toNat % 2 ^ 28) ∨ (w.toNat / 2 ^ 28 = 6 ∧ 2 ^ 16 ≤ w.toNat % 2 ^ 28)) :
    ∃ e, decode w = .error e := by
  obtain hop | hop | ⟨hop | hop | hop, hfield⟩ | ⟨hop, hfield⟩ | ⟨hop, hfield⟩ := h
  · exact ⟨_, decode_reserved (.inl hop)⟩
  · exact ⟨_, decode_reserved (.inr hop)⟩
  · exact ⟨_, (decode_inspect hop).trans (if_neg hfield)⟩
  · exact ⟨_, (decode_locate hop).trans (if_neg hfield)⟩
  · exact ⟨_, (decode_prepare hop).trans (if_neg hfield)⟩
  · exact ⟨_, (decode_pixel hop).trans (if_neg (by omega))⟩
  · exact ⟨_, (decode_convert hop).trans (if_neg (by omega))⟩

/-- An untainted illegal word completes with ILLEGAL_COMMAND and nothing else (R88). -/
theorem completesIllegal_of_untainted {s : State} {w : Word} {e : DecodeError} (hs : s.tainted = false)
    (hw : decode w = .error e) : CompletesIllegal s w := by
  rw [CompletesIllegal, engineStep, hw]
  exact (runCommand_untainted hs _ _).trans (congrArg _ (conclude_error nofun))

/-- An illegal word in flight is never tainted: it has no inputs (R186). -/
theorem State.Inv.untainted_of_illegal {s : State} {w : Word} {e : DecodeError} (hs : s.Inv)
    (hb : s.busyWord = some w) (hw : decode w = .error e) : s.tainted = false := by
  refine Bool.eq_false_iff.2 fun htainted => ?_
  obtain ⟨i, hi, -⟩ := hs.taintedInput (by rw [State.busy, hb]; rfl) htainted
  rw [State.inflight, hb, Option.bind_some, hw] at hi
  cases hi

/-- Settles O5: the word decodes to an error, and the invariant says that such a word is not tainted. -/
theorem illegalWordCompletes : Obligations.IllegalWordCompletes := by
  unfold Obligations.IllegalWordCompletes
  intro s w hs hb op field hillegal
  obtain ⟨e, hw⟩ := decode_illegal hillegal
  exact completesIllegal_of_untainted (hs.untainted_of_illegal hb hw) hw

end Machine

end Sys2Proof
end

section
/-! SUPPORT. WAIT (R94) on a word in flight: a poll that finds it in flight, the run up to its completion, and what the
host holds after it. Then the statement that WAIT terminates. -/

namespace Sys2Proof.Machine

/-- A poll of WAIT while a command is in flight counts one host step and comes again (R94, log entries 2 and 10). -/
theorem wait_busy {s : State} {w : Word} {rest : List HostOp} (hb : s.busyWord = some w) (hw : s.engineWait ≠ 0)
    (hp : s.host.program = .wait :: rest) :
    step s = .next ((s.tick.setProgram (.wait :: rest)).setData (s.readReg .status)) := by
  have hbusy : (s.tick.setProgram rest).busy = true := by simp [State.busy, hb]
  rw [step_hostFirst hb hw, hostStep, State.tick_host, hp]
  simp only [runHostOp, hostWait]
  rw [status_bit0, if_pos hbusy, hostRead_value (hazard_status _)]
  rfl

/-- A completion leaves the host as it is (R186). -/
theorem engineStep_host {w : Word} {s t : State} (h : engineStep w s = .next t) : t.host = s.host := by
  obtain ⟨i, u, code, hu, rfl | rfl⟩ := engineStep_next h <;> cases hu <;> rfl

/-- With a word in flight and WAIT next, the polls leave the block as it is up to a state `u`, the ENGINE completes the
word there, and the next poll ends WAIT (R94, R165). -/
theorem run_wait {w : Word} {rest : List HostOp} :
    ∀ (n : Nat) (s : State), s.engineWait = n → s.busyWord = some w → s.host.program = .wait :: rest →
      ∃ u t, SameBlock s u ∧ u.host.program = .wait :: rest ∧ u.host.emitted = s.host.emitted ∧
        engineStep w u = .next t ∧
        Host.Core.run core (n + 2) s = .next (((t.setProgram rest).setData (t.readReg .status)).setE t.err)
  | 0, s, hw, hb, hp => by
    obtain ⟨t, ht, hidle⟩ := engineStep_completes w s
    have hlast := wait_idle hidle ((congrArg HostState.program (engineStep_host ht)).trans hp)
    refine ⟨s, t, by constructor <;> rfl, hp, rfl, ht, ?_⟩
    rw [run_succ ((step_engine hb hw).trans ht), run_succ hlast]
    rfl
  | n + 1, s, hw, hb, hp => by
    obtain ⟨u, t, hsame, hprogram, hemitted, ht, hrun⟩ :=
      run_wait n ((s.tick.setProgram (.wait :: rest)).setData (s.readReg .status)) (by simp [hw]) hb rfl
    exact ⟨u, t, .trans (by constructor <;> rfl) hsame, hprogram, hemitted, ht,
      (run_succ (wait_busy hb (by omega) hp)).trans hrun⟩

/-- Settles O14: the polls end with the completion, and the poll after it takes `e` from STATUS. -/
theorem waitTerminates : Obligations.WaitTerminates := by
  unfold Obligations.WaitTerminates
  intro s w rest hb hp
  obtain ⟨u, t, -, -, -, ht, hrun⟩ := run_wait s.engineWait s rfl hb hp
  obtain ⟨hidle, -⟩ := engineStep_frame ht
  exact ⟨_, _, Nat.le_refl _, hrun, hidle, rfl, rfl⟩

end Sys2Proof.Machine
end

section
/-! SUPPORT. Runs of the host's actions put end to end: what a run shows, a bus write as a step, a command with its WAIT
(R93, R94), and a file written into the ROM (R95). -/

namespace Sys2Proof.Machine

/-! Runs. -/

/-- A run from `s` comes to `t`. -/
def Reaches (s t : State) : Prop := ∃ k, Host.Core.run core k s = .next t

/-- A run from a state that a run has come to goes on from there. -/
theorem run_add {t : State} (k : Nat) : ∀ (j : Nat) (s : State), Host.Core.run core j s = .next t →
    Host.Core.run core (j + k) s = Host.Core.run core k t
  | 0, s, h => by
    cases h
    rw [Nat.zero_add]
  | j + 1, s, h => by
    cases hs : step s with
    | next u =>
      rw [run_succ hs] at h
      rw [Nat.add_right_comm, run_succ hs]
      exact run_add k j u h
    | fault r => cases r
    | refused r =>
      have hrefused : core.step s = .refused r := hs
      simp only [Host.Core.run, hrefused] at h
      cases h

theorem Reaches.trans {s t u : State} (h : Reaches s t) (h' : Reaches t u) : Reaches s u := by
  obtain ⟨j, hj⟩ := h
  obtain ⟨k, hk⟩ := h'
  exact ⟨j + k, (run_add k j s hj).trans hk⟩

theorem Reaches.of_step {s t : State} (h : step s = .next t) : Reaches s t := ⟨1, run_succ h⟩

/-- A run from `s` ends, with the block idle and the host's program done, having shown `out` (R154). -/
def Shows (s : State) (out : List HostEvent) : Prop :=
  ∃ k t, Host.Core.run core k s = .next t ∧ t.busyWord = none ∧ t.host.program = [] ∧
    t.host.emitted = s.host.emitted ++ out

theorem Shows.nil {s : State} (hb : s.busyWord = none) (hp : s.host.program = []) : Shows s [] :=
  ⟨0, s, rfl, hb, hp, (List.append_nil _).symm⟩

/-- What a run shows, and then what is shown from where it comes to. -/
theorem Shows.append {s t : State} {shown rest : List HostEvent} (h : Reaches s t)
    (he : t.host.emitted = s.host.emitted ++ shown) (ht : Shows t rest) : Shows s (shown ++ rest) := by
  obtain ⟨k, u, hk, hb, hp, hu⟩ := ht
  obtain ⟨j, hj⟩ := h.trans ⟨k, hk⟩
  exact ⟨j, u, hj, hb, hp, by rw [hu, he, List.append_assoc]⟩

/-- A run that shows nothing comes first. -/
theorem Shows.after {s t : State} {out : List HostEvent} (h : Reaches s t) (he : t.host.emitted = s.host.emitted)
    (ht : Shows t out) : Shows s out :=
  .append (shown := []) h (he.trans (List.append_nil _).symm) ht

/-! The host's next action. -/

section
variable {s : State} {rest : List HostOp}

/-- With nothing in flight, a step is the host's next action. -/
theorem step_idle_op {op : HostOp} (hb : s.busyWord = none) (hp : s.host.program = op :: rest) :
    step s = runHostOp op (s.setProgram rest) := by
  rw [step_idle hb, hostStep, hp]

/-- `WR` of a register while nothing is in flight. -/
theorem step_wr {r : Reg} {v : Word} (hb : s.busyWord = none) (hp : s.host.program = .wr r v :: rest) :
    step s = .next ((s.setProgram rest).writeReg r v) :=
  (step_idle_op hb hp).trans (busWrite_register r v _)

/-- `WRB` of a ROM byte while nothing is in flight. -/
theorem step_wrb {a : Nat} {b : Byte} (ha : a < Config.romCap) (hb : s.busyWord = none)
    (hp : s.host.program = .wrb a b :: rest) :
    step s = .next (((s.setProgram rest).touch .romByte).setRomByte a b) := by
  have low : (0#24 ++ b).setWidth 8 = b := by
    apply BitVec.eq_of_toNat_eq
    rw [BitVec.toNat_setWidth, toNat_zero_append, Nat.mod_eq_of_lt b.isLt]
  rw [step_idle_op hb hp]
  exact (busWrite_rom ha _ _).trans (by rw [low])

/-- A command line while nothing is in flight: the acceptance of its word (R164). -/
theorem step_command {i : Instr} (hb : s.busyWord = none) (hp : s.host.program = .command i :: rest) :
    step s = .next ((s.setProgram rest).accept (encode i)) := by
  have hidle : ¬(s.setProgram rest).busy = true := by simp [State.busy, hb]
  exact (step_wr hb hp).trans (congrArg _ (if_neg hidle))

/-- A command line and its WAIT, from an idle block: the command's rule runs on a state `u` that is the one accepted,
and `e` is its error code (R94, R164, R165). -/
theorem reaches_command {i : Instr} (hi : i.wellFormed = true) (hb : s.busyWord = none)
    (hp : s.host.program = .command i :: .wait :: rest) :
    ∃ u t, Reaches s t ∧ SameBlock (s.accept (encode i)) u ∧
      SameBlock ((ruleOf i u).1.conclude (ruleOf i u).2.code) t ∧ t.host.program = rest ∧
      t.host.emitted = s.host.emitted ∧ t.host.e = (ruleOf i u).2.code := by
  obtain ⟨u, t, hsame, -, hemitted, ht, hrun⟩ :=
    run_wait _ ((s.setProgram (.wait :: rest)).accept (encode i)) rfl rfl rfl
  have hhost := engineStep_host ht
  rw [engineStep_of_decode (decode_encode hi)] at ht
  obtain rfl := exec_untainted hsame.tainted ht
  refine ⟨u, _, (Reaches.of_step (step_command hb hp)).trans ⟨_, hrun⟩, .trans (by constructor <;> rfl) hsame,
    by constructor <;> rfl, rfl, ?_, rfl⟩
  exact (congrArg HostState.emitted hhost).trans hemitted

end

/-! A file in the ROM. -/

/-- A file's bytes written to the ROM from address `a` on, with what stands below `a` left as it is (R95). -/
theorem reaches_load {rest : List HostOp} : ∀ (bytes : List Byte) (a : Nat) (s : State), s.busyWord = none →
    s.host.program = loadOps a bytes ++ rest → a + bytes.length ≤ Config.romCap →
    ∃ t, Reaches s t ∧ t.busyWord = none ∧ t.host.program = rest ∧ t.host.emitted = s.host.emitted ∧
      (∀ k, k < bytes.length → t.romByte (a + k) = fileByte bytes k) ∧ ∀ c, c < a → t.romByte c = s.romByte c
  | [], _, s, hb, hp, _ => ⟨s, ⟨0, rfl⟩, hb, hp, rfl, nofun, fun _ _ => rfl⟩
  | b :: bytes, a, s, hb, hp, hcap => by
    rw [List.length_cons] at hcap
    have hstep := step_wrb (by omega) hb hp
    obtain ⟨t, ht, hidle, hprogram, hemitted, hloaded, hbelow⟩ :=
      reaches_load bytes (a + 1) (((s.setProgram (loadOps (a + 1) bytes ++ rest)).touch .romByte).setRomByte a b) hb rfl
        (by omega)
    refine ⟨t, (Reaches.of_step hstep).trans ht, hidle, hprogram, hemitted, fun k hk => ?_, fun c hc => ?_⟩
    · cases k with
      | zero => exact (hbelow a (by omega)).trans ((romByte_setRomByte ..).trans (if_pos rfl))
      | succ k =>
        rw [← Nat.add_assoc, Nat.add_right_comm]
        exact hloaded k (Nat.lt_of_succ_lt_succ hk)
    · exact (hbelow c (by omega)).trans ((romByte_setRomByte ..).trans (if_neg (by omega)))

/-- The ROM holds the file, up to ROM_CAP (R27, R41). -/
structure HoldsFile (bytes : List Byte) (s : State) : Prop where
  romLen : s.romLen.toNat = min bytes.length Config.romCap
  rom : ∀ a, a < s.romLen.toNat → s.romByte a = fileByte bytes a

theorem HoldsFile.congr {bytes : List Byte} {s t : State} (h : HoldsFile bytes s) (hrom : t.rom = s.rom)
    (hlen : t.romLen = s.romLen) : HoldsFile bytes t where
  romLen := hlen ▸ h.romLen
  rom a ha := (romByte_congr hrom a).trans (h.rom a (hlen ▸ ha))

/-- ROM_LEN as EXPORT leaves it (R27, log entry 11). -/
theorem clampLen_lengthWord (bytes : List Byte) :
    (clampLen (lengthWord bytes)).toNat = min bytes.length Config.romCap := by
  have hcap := romCap_le_romCapMax
  rw [Config.romCapMax] at hcap
  rw [clampLen_toNat, lengthWord, BitVec.toNat_ofNat]
  omega

/-- EXPORT's load: an idle block comes to hold the file, with PREPARE next (R95). -/
theorem reaches_holdsFile {path : String} {bytes : List Byte} {s : State} (hb : s.busyWord = none)
    (hp : s.host.program = [.exportImage path bytes]) :
    ∃ t, Reaches s t ∧ t.busyWord = none ∧ t.host.program = [.command .prepare, .wait, .exportVerdict path] ∧
      t.host.emitted = s.host.emitted ∧ HoldsFile bytes t := by
  have hstart : step s = .next ((s.setProgram []).pushOps (exportOps path bytes)) := step_idle_op hb hp
  have hcap : 0 + (bytes.take Config.romCap).length ≤ Config.romCap := by
    rw [List.length_take]
    omega
  obtain ⟨t, ht, hidle, hprogram, hemitted, hloaded, -⟩ :=
    reaches_load (bytes.take Config.romCap) 0 ((s.setProgram []).pushOps (exportOps path bytes)) hb
      (List.append_assoc ..) hcap
  have hlen := clampLen_lengthWord bytes
  refine ⟨_, ((Reaches.of_step hstart).trans ht).trans (.of_step (step_wr hidle hprogram)), hidle, rfl, hemitted,
    hlen, fun a ha => ?_⟩
  have ha : a < min bytes.length Config.romCap := hlen ▸ ha
  have hbyte := hloaded a (by rw [List.length_take]; omega)
  rw [Nat.zero_add] at hbyte
  refine hbyte.trans ?_
  rw [fileByte, fileByte, List.getD, List.getD, List.getElem?_take_of_lt (by omega)]

end Sys2Proof.Machine
end

section
/-! SUPPORT. EXPORT after its load (R95, R154): PREPARE's verdict on a file, the raster of a group as the file's bytes
give it, and the loop over groups. Then the statement that an export shows exactly its output. -/

namespace Sys2Proof.Machine

/-! What COMPOSE reads during an export, and the raster it gives. -/

/-- The ROM holds the file, and the CHR region stands inside it, at `offset` with `tiles` tiles. -/
structure HoldsRegion (bytes : List Byte) (offset tiles : Nat) (s : State) : Prop where
  file : HoldsFile bytes s
  offset : s.chrOffset.toNat = offset
  tiles : s.tileCount = tiles
  inside : ¬s.regionPastRom = true

section
variable {bytes : List Byte} {offset tiles : Nat} {s t : State}

theorem HoldsRegion.congr (h : HoldsRegion bytes offset tiles s) (hrom : t.rom = s.rom) (hlen : t.romLen = s.romLen)
    (hoffset : t.chrOffset = s.chrOffset) (hlength : t.chrLength = s.chrLength) : HoldsRegion bytes offset tiles t where
  file := h.file.congr hrom hlen
  offset := hoffset ▸ h.offset
  tiles := by rw [← h.tiles, State.tileCount, State.tileCount, hlength]
  inside := by
    have := h.inside
    rwa [State.regionPastRom, State.endsPastRom, hoffset, hlength, hlen]

theorem HoldsRegion.of_sameBlock (h : HoldsRegion bytes offset tiles s) (hsame : SameBlock s t) :
    HoldsRegion bytes offset tiles t :=
  h.congr hsame.rom hsame.romLen hsame.chrOffset hsame.chrLength

/-- The bytes of the region's tiles are the file's (R62, R120). -/
theorem HoldsRegion.tile_byte (h : HoldsRegion bytes offset tiles s) {n j : Nat} (hn : n < s.tileCount) (hj : j < 16) :
    s.romByte (s.tileAddr n j) = fileByte bytes (offset + 16 * n + j) := by
  rw [h.file.rom _ (tileAddr_lt_romLen h.inside hn hj), State.tileAddr, h.offset, tileBytes]

/-- The background is 0 in every channel (R142). -/
theorem black_channel (c : Nat) : black.channel c = 0 := by
  match c with
  | 0 | 1 | _ + 2 => rfl

/-- A SHEET buffer that holds the raster of group `g` hands over the bytes R144 gives of the file. -/
theorem HoldsRegion.sheetContents (h : HoldsRegion bytes offset tiles s) {g : Nat}
    (hsheet : t.sheet = { cells := composeCells s (256 * g) (s.groupTiles g), draw := 0 }) :
    t.sheetContents = fileRaster bytes offset tiles g := by
  refine List.map_congr_left fun k hk => ?_
  rw [List.mem_range, sheetBytes] at hk
  have hplace : k = sheetAddr (k / 3 % 128) (k / 384) (k % 3) := by
    rw [sheetAddr, sheetSide]
    omega
  have hcell : t.sheetByte k =
      (spanColour s (256 * g) (s.groupTiles g) (k / 384) (k / 3 % 128 / 8) (k / 3 % 128 % 8)).channel (k % 3) := by
    rw [State.sheetByte, hsheet]
    conv_lhs => rw [hplace]
    rw [lookupCell_composeCells s _ _ _ _ _ (by omega) (by omega) (by omega)]
    rfl
  have hn : s.groupTiles g = min 256 (tiles - 256 * g) := by rw [State.groupTiles, h.tiles, tilesPerSheet]
  rw [hcell, spanColour]
  simp only [← hn]
  split
  · rename_i hplaced
    have hi := group_tile_lt_tileCount hplaced
    rw [tilesPerSheet] at hi
    rw [h.tile_byte hi (by omega), h.tile_byte hi (by omega)]
    rfl
  · exact black_channel _

end

/-! The loop over groups. -/

section
variable {path : String} {s : State} {rest : List HostOp}

/-- The hand-over from an idle block shows the SHEET buffer (R95). -/
theorem step_exportEmit {g : Nat} (hb : s.busyWord = none) (hp : s.host.program = .exportEmit path g :: rest) :
    step s = .next ((s.setProgram rest).emit (.raster (rasterName path g) s.sheetContents)) := by
  have hsafe : ¬(s.setProgram rest).isResult .sheetByte = true :=
    Bool.eq_false_iff.1 (hazardRead_idle (s := s.setProgram rest) hb (.sheetByte 0))
  exact (step_idle_op hb hp).trans (congrArg _ (if_neg hsafe))

/-- COMPOSE of a group of the region ends with that group's raster in the SHEET buffer, and its hand-over shows it. -/
theorem reaches_raster {bytes : List Byte} {offset tiles g : Nat} (hs : HoldsRegion bytes offset tiles s)
    (hg : g < s.groupCount) (hb : s.busyWord = none)
    (hp : s.host.program = .command (.compose g) :: .wait :: .exportEmit path g :: rest) :
    ∃ t, Reaches s t ∧ HoldsRegion bytes offset tiles t ∧ t.busyWord = none ∧ t.host.program = rest ∧
      t.host.emitted = s.host.emitted ++ [.raster (rasterName path g) (fileRaster bytes offset tiles g)] := by
  have hwf : (Instr.compose g).wellFormed = true :=
    (fitsOperand_iff g).2 (hg.trans ((groupCount_lt s).trans (by decide)))
  obtain ⟨u, t, ht, hu, hsame, hprogram, hemitted, -⟩ := reaches_command hwf hb hp
  have hregion : HoldsRegion bytes offset tiles u := (hs.congr (t := s.accept _) rfl rfl rfl rfl).of_sameBlock hu
  have hrule : ruleOf (.compose g) u = (u.setSheet { cells := composeCells u (256 * g) (u.groupTiles g), draw := 0 }
      (BitVec.ofNat 28 g) (BitVec.ofNat 9 (u.groupTiles g)), .none) := by
    obtain ⟨hpast, -⟩ | ⟨-, hrange, -⟩ | ⟨-, -, h⟩ := composeRule_cases g u
    · exact absurd (decide_eq_true hpast) hregion.inside
    · rw [groupCount_eq, hregion.tiles, ← hs.tiles, ← groupCount_eq] at hrange
      omega
    · exact h
  rw [hrule] at hsame
  have hidle : t.busyWord = none := hsame.busyWord
  refine ⟨_, ht.trans (.of_step (step_exportEmit hidle hprogram)), ?_, hidle, rfl, ?_⟩
  · exact (hregion.congr (t := t) hsame.rom hsame.romLen hsame.chrOffset hsame.chrLength).congr rfl rfl rfl rfl
  · rw [State.emit_host, State.setProgram_host, hemitted, hregion.sheetContents hsame.sheet]

/-- The loop from group `g` on shows the rasters of the `k` groups left, in order (R95). -/
theorem shows_groups {bytes : List Byte} {offset tiles n : Nat} : ∀ (k g : Nat) (s : State),
    HoldsRegion bytes offset tiles s → g + k = n → n = (tiles + 255) / 256 → s.busyWord = none →
    s.host.program = [.exportGroup path g n] →
    Shows s ((List.range' g k).map fun g => .raster (rasterName path g) (fileRaster bytes offset tiles g))
  | 0, g, s, _, hk, _, hb, hp => by
    have hstep : step s = .next (s.setProgram []) := (step_idle_op hb hp).trans (congrArg _ (if_neg (by omega)))
    exact .after (.of_step hstep) rfl (.nil hb rfl)
  | k + 1, g, s, hs, hk, hn, hb, hp => by
    have hstep : step s = .next ((s.setProgram []).pushOps
        [.command (.compose g), .wait, .exportEmit path g, .exportGroup path (g + 1) n]) :=
      (step_idle_op hb hp).trans (congrArg _ (if_pos (by omega)))
    have hg : g < s.groupCount := by
      rw [groupCount_eq, hs.tiles]
      omega
    obtain ⟨t, ht, hregion, hidle, hprogram, hemitted⟩ := reaches_raster
      (s := (s.setProgram []).pushOps [.command (.compose g), .wait, .exportEmit path g, .exportGroup path (g + 1) n])
      (hs.congr rfl rfl rfl rfl) hg hb rfl
    exact .append ((Reaches.of_step hstep).trans ht) hemitted
      (shows_groups k (g + 1) t hregion (by omega) hn hidle hprogram)

end

/-! PREPARE on a file, and the verdict. -/

/-- The file's first four bytes are the magic (R101). -/
def HasMagic (bytes : List Byte) : Prop :=
  fileByte bytes 0 = 0x4E ∧ fileByte bytes 1 = 0x45 ∧ fileByte bytes 2 = 0x53 ∧ fileByte bytes 3 = 0x1A

section
variable {bytes : List Byte} {s : State} (hs : HoldsFile bytes s)
include hs

/-- ROM_LEN's clamp does not change a comparison with a number ROM_CAP covers (R157). -/
theorem HoldsFile.romLen_lt_iff {n : Nat} (hn : n ≤ Config.romCapMin) : s.romLen.toNat < n ↔ bytes.length < n := by
  have hcap := romCapMin_le_romCap
  rw [hs.romLen]
  omega

theorem HoldsFile.length_ge (hlen : 16 ≤ s.romLen.toNat) : 16 ≤ bytes.length := by
  have := hs.romLen
  omega

/-- The header bytes that give the region are the file's (R111). -/
theorem HoldsFile.region_bytes (hlen : 16 ≤ s.romLen.toNat) : s.romByte 4 = fileByte bytes 4 ∧
    s.romByte 5 = fileByte bytes 5 ∧ s.romByte 6 = fileByte bytes 6 :=
  ⟨hs.rom 4 (by omega), hs.rom 5 (by omega), hs.rom 6 (by omega)⟩

theorem HoldsFile.validInes_iff (hlen : 16 ≤ s.romLen.toNat) : validInes s.header = true ↔ HasMagic bytes := by
  have hbyte (k : Nat) (hk : k < 8) : s.header[k] = fileByte bytes k :=
    (header_getElem s k hk).trans (hs.rom k (by omega))
  simp only [validInes, HasMagic, hbyte, Bool.and_eq_true, beq_iff_eq, and_assoc]

end

/-- Every region a header names ends within the least ROM_CAP (R113). -/
theorem regionEnd_le (b4 b5 b6 : Byte) : locateOffset b4 b6 + locateLength b5 ≤ Config.romCapMin :=
  Nat.add_le_add (locateOffset_le b4 b6) (locateLength_le b5)

/-- A region given in the two registers, inside the file in the ROM. -/
theorem HoldsRegion.of_registers {bytes : List Byte} {s : State} {offset length : Nat} (hs : HoldsFile bytes s)
    (hoffset : s.chrOffset = BitVec.ofNat 32 offset) (hlength : s.chrLength = BitVec.ofNat 32 length)
    (hinside : offset + length ≤ s.romLen.toNat) : HoldsRegion bytes offset (length / 16) s := by
  have hlt := s.romLen.isLt
  have hoffset : s.chrOffset.toNat = offset := by rw [hoffset, BitVec.toNat_ofNat, Nat.mod_eq_of_lt (by omega)]
  have hlength : s.chrLength.toNat = length := by rw [hlength, BitVec.toNat_ofNat, Nat.mod_eq_of_lt (by omega)]
  refine ⟨hs, hoffset, by rw [tileCount_eq, hlength], ?_⟩
  rw [State.regionPastRom, State.endsPastRom, hoffset, hlength, decide_eq_true_eq]
  exact Nat.not_lt_of_le hinside

/-! R154's output by the file: its four cases. -/

section
variable {path : String} {bytes : List Byte}

theorem exportOutput_of_short (h : bytes.length < 16) :
    exportOutput path bytes = [.diagnostic (diagnosticLine path 1)] := if_pos h

variable (hlen : 16 ≤ bytes.length)
include hlen

theorem exportOutput_of_noMagic (hmagic : ¬HasMagic bytes) :
    exportOutput path bytes = [.diagnostic (diagnosticLine path 2)] := by
  simp only [HasMagic, not_and_or] at hmagic
  exact (if_neg (Nat.not_lt_of_le hlen)).trans (if_pos hmagic)

variable (hmagic : HasMagic bytes)
include hmagic

theorem exportOutput_of_magic : exportOutput path bytes =
    if bytes.length < locateOffset (fileByte bytes 4) (fileByte bytes 6) + locateLength (fileByte bytes 5) then
      [.diagnostic (diagnosticLine path 1)]
    else
      (List.range ((locateLength (fileByte bytes 5) / 16 + 255) / 256)).map fun g =>
        .raster (rasterName path g)
          (fileRaster bytes (locateOffset (fileByte bytes 4) (fileByte bytes 6)) (locateLength (fileByte bytes 5) / 16)
            g) := by
  obtain ⟨h0, h1, h2, h3⟩ := hmagic
  refine (if_neg (Nat.not_lt_of_le hlen)).trans (if_neg ?_)
  simp [h0, h1, h2, h3]

end

section
variable {path : String} {bytes : List Byte} {s : State}

/-- The verdict on an error code 1 or 2: its diagnostic, and the end (R95). -/
theorem shows_diagnostic {code : BitVec 4} (hb : s.busyWord = none) (hp : s.host.program = [.exportVerdict path])
    (he : s.host.e = code) (hcode : code = 1 ∨ code = 2) : Shows s [.diagnostic (diagnosticLine path code)] := by
  subst he
  have hstep : step s = .next ((s.setProgram []).emit (.diagnostic (diagnosticLine path s.host.e))) :=
    (step_idle_op hb hp).trans (congrArg _ (if_pos hcode))
  exact .append (.of_step hstep) rfl (.nil hb rfl)

/-- The verdict where PREPARE has found a region: every group's raster, in order (R95). -/
theorem shows_rasters {offset tiles : Nat} (hs : HoldsRegion bytes offset tiles s) (hb : s.busyWord = none)
    (hp : s.host.program = [.exportVerdict path]) (he : s.host.e = 0) :
    Shows s ((List.range ((tiles + 255) / 256)).map fun g =>
      .raster (rasterName path g) (fileRaster bytes offset tiles g)) := by
  have hgood : ¬(s.host.e = 1 ∨ s.host.e = 2) := by
    rw [he]
    decide
  have hn : (s.readReg .groupCount).toNat = (tiles + 255) / 256 := by rw [groupCount_toNat, groupCount_eq, hs.tiles]
  have hstep : step s = .next (((s.setProgram []).hostRead (.register .groupCount)).pushOps
      [.exportGroup path 0 (s.readReg .groupCount).toNat]) :=
    (step_idle_op hb hp).trans (congrArg _ (if_neg hgood))
  rw [hn, hostRead_value (s := s.setProgram []) rfl] at hstep
  rw [List.range_eq_range']
  exact .after (.of_step hstep) rfl
    (shows_groups _ 0 _ (hs.congr rfl rfl rfl rfl) (Nat.zero_add _) rfl hb rfl)

/-- PREPARE, its WAIT and the verdict, on a file in the ROM: the file's output, by PREPARE's four answers (R150,
R154). -/
theorem shows_exportOutput (hs : HoldsFile bytes s) (hb : s.busyWord = none)
    (hp : s.host.program = [.command .prepare, .wait, .exportVerdict path]) : Shows s (exportOutput path bytes) := by
  obtain ⟨u, t, ht, hu, hsame, hprogram, hemitted, he⟩ := reaches_command (i := .prepare) rfl hb hp
  have hidle : t.busyWord = none := hsame.busyWord
  have hfile : HoldsFile bytes u := hs.congr hu.rom hu.romLen
  refine .after ht hemitted ?_
  obtain ⟨hshort, h⟩ | ⟨hlen, hmagic, h⟩ | ⟨hlen, hmagic, hpast, h⟩ | ⟨hlen, hmagic, hinside, h⟩ :=
    prepareRule_cases u <;> rw [ruleOf, h] at he
  · rw [exportOutput_of_short ((hfile.romLen_lt_iff (by decide)).1 hshort)]
    exact shows_diagnostic hidle hprogram he (.inl rfl)
  · rw [exportOutput_of_noMagic (hfile.length_ge hlen) (by rw [← hfile.validInes_iff hlen, hmagic]; nofun)]
    exact shows_diagnostic hidle hprogram he (.inr rfl)
  · obtain ⟨h4, h5, h6⟩ := hfile.region_bytes hlen
    rw [h4, h5, h6, hfile.romLen_lt_iff (regionEnd_le _ _ _)] at hpast
    rw [exportOutput_of_magic (hfile.length_ge hlen) ((hfile.validInes_iff hlen).1 hmagic), if_pos hpast]
    exact shows_diagnostic hidle hprogram he (.inl rfl)
  · obtain ⟨h4, h5, h6⟩ := hfile.region_bytes hlen
    rw [h4, h5, h6] at h hinside
    have hnotPast := mt (hfile.romLen_lt_iff (regionEnd_le _ _ _)).2 (Nat.not_lt_of_le hinside)
    rw [exportOutput_of_magic (hfile.length_ge hlen) ((hfile.validInes_iff hlen).1 hmagic), if_neg hnotPast]
    rw [ruleOf, h] at hsame
    exact shows_rasters (.of_registers (hfile.congr hsame.rom hsame.romLen) hsame.chrOffset hsame.chrLength
      (hsame.romLen ▸ hinside)) hidle hprogram he

end

/-- Settles O51: the load, then PREPARE's verdict on the file it has loaded. -/
theorem exportShowsItsOutput : Obligations.ExportShowsItsOutput := by
  unfold Obligations.ExportShowsItsOutput
  intro path bytes s hb hp
  obtain ⟨t, ht, hidle, hprogram, hemitted, hfile⟩ := reaches_holdsFile hb hp
  exact Shows.after ht hemitted (shows_exportOutput hfile hidle hprogram)

end Sys2Proof.Machine
end

section
/-! SUPPORT. The Header Inspector: an untainted completion by what its rule answers, and FORMAT's two flags by the
header's bytes and bits (R101, R102). Then the statements about INSPECT. -/

namespace Sys2Proof.Machine

/-! An untainted command by its rule. -/

section
variable {i : Instr} {s t u : State} (hs : s.tainted = false)
include hs

/-- Where the rule fails and writes nothing, neither does the command (R165). -/
theorem exec_of_rule_failed {e : ErrCode} (hrule : ruleOf i s = (s, e)) (he : e.code ≠ 0) :
    exec i s = .next { s with busyWord := none, err := e.code, irqStatus := s.irqStatus ||| 3 } := by
  rw [exec_eq_runCommand, runCommand_untainted hs, hrule, conclude_error he]

/-- Where the rule ends with no error, the command ends with code 0 and sets DONE alone (R165). -/
theorem exec_of_rule_done (hrule : ruleOf i s = (u, .none)) :
    exec i s = .next { u with busyWord := none, err := 0, irqStatus := u.irqStatus ||| 1 } := by
  rw [exec_eq_runCommand, runCommand_untainted hs, hrule]
  rfl

/-- A command whose rule answers alike on another ROM buffer does alike. -/
theorem exec_withRom {m : Memory} (hrule : RomAside m (ruleOf i s) (ruleOf i (s.withRom m)))
    (h : exec i s = .next t) : exec i (s.withRom m) = .next (t.withRom m) := by
  rw [exec_untainted hs h, exec_eq_runCommand, runCommand_untainted (s := s.withRom m) hs, hrule]
  rfl

end

/-! FORMAT's two flags. -/

theorem formatBits_validInes (valid nes20 : Bool) : (formatBits valid nes20).getLsbD 0 = valid := by
  cases valid <;> cases nes20 <;> rfl

theorem formatBits_nes20 (valid nes20 : Bool) : (formatBits valid nes20).getLsbD 1 = nes20 := by
  cases valid <;> cases nes20 <;> rfl

/-- The magic is header bytes 0 to 3 (R101). -/
theorem validInes_iff (b : Vector Byte 8) :
    validInes b = true ↔ b[0] = 0x4E ∧ b[1] = 0x45 ∧ b[2] = 0x53 ∧ b[3] = 0x1A := by
  simp only [validInes, Bool.and_eq_true, beq_iff_eq, and_assoc]

/-- Byte 7's mask compares its bits 3 and 2 (R102). -/
theorem nes20Mask_iff (b7 : Byte) :
    b7 &&& 0x0C = 0x08 ↔ b7.getLsbD 3 = true ∧ b7.getLsbD 2 = false := by
  revert b7
  decide

/-- NES 2.0 is the magic and byte 7's two bits (R102). -/
theorem isNes20_iff (b : Vector Byte 8) :
    isNes20 b = true ↔ validInes b = true ∧ b[7].getLsbD 3 = true ∧ b[7].getLsbD 2 = false := by
  rw [isNes20, Bool.and_eq_true, beq_iff_eq, nes20Mask_iff]

/-- FORMAT depends on header bytes 0 to 3 and on bits [3:2] of byte 7 only (R103). -/
theorem inspectHeader_congr {b b' : Vector Byte 8} (h0 : b[0] = b'[0]) (h1 : b[1] = b'[1]) (h2 : b[2] = b'[2])
    (h3 : b[3] = b'[3]) (h7 : b[7] &&& (0x0C : Byte) = b'[7] &&& 0x0C) : inspectHeader b = inspectHeader b' := by
  have hvalid : validInes b = validInes b' := by rw [validInes, validInes, h0, h1, h2, h3]
  rw [inspectHeader, inspectHeader, isNes20, isNes20, hvalid, h7]

/-! The statements. -/

/-- Settles O20: the size check reads no ROM byte, and FORMAT's value is the same for both headers. -/
theorem inspectReadsMagicAndTwoBits : Obligations.InspectReadsMagicAndTwoBits := by
  unfold Obligations.InspectReadsMagicAndTwoBits
  intro s t m hs hmagic hbits h
  have hformat : inspectHeader (s.withRom m).header = inspectHeader s.header := by
    apply inspectHeader_congr <;> simp only [header_getElem]
    · exact hmagic 0 (by decide)
    · exact hmagic 1 (by decide)
    · exact hmagic 2 (by decide)
    · exact hmagic 3 (by decide)
    · exact hbits
  have hrule : RomAside m (inspectRule s) (inspectRule (s.withRom m)) := by
    refine .ite (fun _ => rfl) fun _ => ?_
    rw [hformat]
    rfl
  exact exec_withRom (i := .inspect) hs hrule h

/-- Settles O22: the rule's two answers by ROM_LEN, and the header's bytes behind each of FORMAT's flags. -/
theorem inspectResult : Obligations.InspectResult := by
  unfold Obligations.InspectResult
  refine ⟨decode_encode (i := .inspect) rfl, ?_⟩
  intro s hs valid nes20
  have hvalid : validInes s.header = true ↔ valid := by
    simp only [validInes_iff, header_getElem, valid]
  have hnes20 : isNes20 s.header = true ↔ nes20 := by
    rw [isNes20_iff, hvalid, header_getElem]
  refine ⟨fun w hop hfield => completesIllegal_of_untainted hs ((decode_inspect hop).trans (if_neg hfield)), ?_⟩
  obtain ⟨hlen, hrule⟩ | ⟨hlen, hrule⟩ := inspectRule_cases s
  · exact ⟨fun _ => exec_of_rule_failed (i := .inspect) hs hrule nofun, fun h => absurd hlen (Nat.not_lt_of_le h)⟩
  · refine ⟨fun h => absurd h (Nat.not_lt_of_le hlen), fun _ => ⟨inspectHeader s.header, ?_, ?_, ?_⟩⟩
    · exact exec_of_rule_done (i := .inspect) hs hrule
    · rw [inspectHeader, formatBits_validInes, hvalid]
    · rw [inspectHeader, formatBits_nes20, hnes20]

end Sys2Proof.Machine
end

section
/-! SUPPORT. The Region Locator: the region function's values as the two 32-bit registers hold them (R111, R113), LOCATE
past its size check, and the tiles and groups of a length in CHR units (R117). Then the statements about LOCATE. -/

namespace Sys2Proof.Machine

/-! The region function in the registers. -/

/-- The region's offset by byte 6's bit 2 and byte 4 (R111). -/
theorem locateOffset_eq (b4 b6 : Byte) :
    locateOffset b4 b6 = 16 + (if b6.getLsbD 2 then 512 else 0) + b4.toNat * 16384 := by
  rw [locateOffset, trainerSize_eq, headerSize]

/-- With the trainer or without it (R113). -/
theorem locateOffset_cases (b4 b6 : Byte) :
    locateOffset b4 b6 = 16 + 16384 * b4.toNat ∨ locateOffset b4 b6 = 528 + 16384 * b4.toNat := by
  rw [locateOffset_eq]
  split
  · right
    omega
  · left
    omega

/-- The region's offset fits its register (R113). -/
theorem toNat_ofNat_locateOffset (b4 b6 : Byte) : (BitVec.ofNat 32 (locateOffset b4 b6)).toNat = locateOffset b4 b6 := by
  rw [BitVec.toNat_ofNat, Nat.mod_eq_of_lt ((locateOffset_le b4 b6).trans_lt (by decide))]

/-- The region's length fits its register (R113). -/
theorem toNat_ofNat_locateLength (b5 : Byte) : (BitVec.ofNat 32 (locateLength b5)).toNat = locateLength b5 := by
  rw [BitVec.toNat_ofNat, Nat.mod_eq_of_lt ((locateLength_le b5).trans_lt (by decide))]

/-! LOCATE past its size check. -/

/-- An untainted LOCATE with a whole header in the image writes the region function's values, whatever the magic and
the image's end (R110, R114, R115). -/
theorem exec_locate_of_header {s : State} (hs : s.tainted = false) (hlen : 16 ≤ s.romLen.toNat) :
    ∃ off len : Word,
      exec .locate s = .next
        { s with busyWord := none, err := 0, irqStatus := s.irqStatus ||| 1, chrOffset := off, chrLength := len } ∧
      off.toNat = locateOffset (s.romByte 4) (s.romByte 6) ∧ len.toNat = locateLength (s.romByte 5) := by
  obtain ⟨hshort, -⟩ | ⟨-, hrule⟩ := locateRule_cases s
  · exact absurd hshort (Nat.not_lt_of_le hlen)
  · have hexec := exec_of_rule_done (i := .locate) hs hrule
    exact ⟨_, _, hexec, toNat_ofNat_locateOffset _ _, toNat_ofNat_locateLength _⟩

/-! The tiles and groups of a length in CHR units. -/

section
variable {s : State} {n : Nat} (hlength : s.chrLength.toNat = 8192 * n)
include hlength

theorem tileCount_of_chrUnits : s.tileCount = 512 * n := by
  rw [tileCount_eq, hlength]
  omega

theorem groupCount_of_chrUnits : s.groupCount = 2 * n := by
  rw [groupCount_eq, tileCount_of_chrUnits hlength]
  omega

/-- No group is cut short: the `2 n` groups of 256 use up all `512 n` tiles (R117). -/
theorem groupTiles_of_chrUnits {g : Nat} (hg : g < s.groupCount) : s.groupTiles g = 256 := by
  rw [groupCount_of_chrUnits hlength] at hg
  rw [State.groupTiles, tileCount_of_chrUnits hlength, tilesPerSheet]
  omega

end

/-! The statements. -/

/-- Settles O23: the size check's two sides, and the region function's values in the two registers. -/
theorem locateResult : Obligations.LocateResult := by
  unfold Obligations.LocateResult
  refine ⟨decode_encode (i := .locate) rfl, fun s hs => ⟨?illegal, ?short, ?header⟩⟩
  case illegal =>
    exact fun w hop hfield => completesIllegal_of_untainted hs ((decode_locate hop).trans (if_neg hfield))
  case short =>
    intro hshort
    obtain ⟨-, hrule⟩ | ⟨hlen, -⟩ := locateRule_cases s
    · exact exec_of_rule_failed (i := .locate) hs hrule nofun
    · exact absurd hshort (Nat.not_lt_of_le hlen)
  case header =>
    intro hlen
    obtain ⟨off, len, hexec, hoff, hlength⟩ := exec_locate_of_header hs hlen
    exact ⟨off, len, hexec, hoff.trans (locateOffset_eq _ _), hlength⟩

/-- Settles O24: a length of `byte 5` CHR units makes whole groups, and the header's three bytes bound the region. -/
theorem locatedRegionIsWholeGroups : Obligations.LocatedRegionIsWholeGroups := by
  unfold Obligations.LocatedRegionIsWholeGroups
  intro s t hs hlen ht
  obtain ⟨off, len, hexec, hoff, hlength⟩ := exec_locate_of_header hs hlen
  rw [hexec, Host.Outcome.next.injEq] at ht
  have hoffset : t.chrOffset.toNat = locateOffset (s.romByte 4) (s.romByte 6) := ht ▸ hoff
  have hbytes : t.chrLength.toNat = locateLength (s.romByte 5) := ht ▸ hlength
  have hunits : t.chrLength.toNat = 8192 * (s.romByte 5).toNat := hbytes.trans (Nat.mul_comm _ _)
  have hcases := locateOffset_cases (s.romByte 4) (s.romByte 6)
  refine ⟨hoffset ▸ hcases, ?_, hoffset ▸ locateOffset_le _ _, hunits, hbytes ▸ locateLength_le _, ?_,
    tileCount_of_chrUnits hunits, groupCount_of_chrUnits hunits, fun g => groupTiles_of_chrUnits hunits⟩
  · omega
  · rw [hoffset, hbytes]
    exact regionEnd_le _ _ _

end Sys2Proof.Machine
end

section
/-! SUPPORT. The Tile Decoder: a command's word given as a number, FETCH by its two checks (R122), and a colour index
and a converted row by the bits of the plane bytes (R121, R124). Then the statements about FETCH, PIXEL and CONVERT. -/

namespace Sys2Proof.Machine

/-- The number of a well-formed command's word decodes to it (R80, R90). -/
theorem decode_ofNat {i : Instr} {n : Nat} (hi : i.wellFormed = true) (hn : n = i.opcode * 2 ^ 28 + i.operandField) :
    decode (BitVec.ofNat 32 n) = .ok i := by
  rw [hn, ← encode_toNat hi, BitVec.ofNat_toNat, BitVec.setWidth_eq]
  exact decode_encode hi

/-! An untainted FETCH by its checks, in their order (R122). -/

section
variable {s : State} {n : Nat} (hs : s.tainted = false)
include hs

theorem exec_fetch_pastRom (hpast : s.romLen.toNat < s.chrOffset.toNat + s.chrLength.toNat) :
    exec (.fetch n) s = .next { s with busyWord := none, err := 1, irqStatus := s.irqStatus ||| 3 } := by
  obtain ⟨-, hrule⟩ | ⟨hinside, -⟩ | ⟨hinside, -⟩ := fetchRule_cases n s
  · exact exec_of_rule_failed (i := .fetch n) hs hrule nofun
  · exact absurd hpast (Nat.not_lt_of_le hinside)
  · exact absurd hpast (Nat.not_lt_of_le hinside)

variable (hinside : s.chrOffset.toNat + s.chrLength.toNat ≤ s.romLen.toNat)
include hinside

theorem exec_fetch_noTile (hn : s.tileCount ≤ n) :
    exec (.fetch n) s = .next { s with busyWord := none, err := 4, irqStatus := s.irqStatus ||| 3 } := by
  obtain ⟨hpast, -⟩ | ⟨-, -, hrule⟩ | ⟨-, htile, -⟩ := fetchRule_cases n s
  · exact absurd hpast (Nat.not_lt_of_le hinside)
  · exact exec_of_rule_failed (i := .fetch n) hs hrule nofun
  · exact absurd hn (Nat.not_le_of_lt htile)

theorem exec_fetch_tile (hn : n < s.tileCount) :
    exec (.fetch n) s = .next
      { s with
        busyWord := none, err := 0, irqStatus := s.irqStatus ||| 1, tile := s.romTile n,
        tileIndex := BitVec.ofNat 28 n } := by
  obtain ⟨hpast, -⟩ | ⟨-, hnoTile, -⟩ | ⟨-, -, hrule⟩ := fetchRule_cases n s
  · exact absurd hpast (Nat.not_lt_of_le hinside)
  · exact absurd hn (Nat.not_lt_of_le hnoTile)
  · exact exec_of_rule_done (i := .fetch n) hs hrule

end

/-! Colour indices and converted rows by bits. -/

/-- Bit 0 of a colour index is the low plane's bit (R11). -/
theorem pix_bit0 (lo hi : Byte) (x : Nat) : (pix lo hi x).getLsbD 0 = lo.getLsbD (7 - x) := by
  rw [BitVec.getLsbD, pix_toNat]
  cases lo.getLsbD (7 - x) <;> cases hi.getLsbD (7 - x) <;> rfl

/-- Bit 1 of a colour index is the high plane's bit (R11). -/
theorem pix_bit1 (lo hi : Byte) (x : Nat) : (pix lo hi x).getLsbD 1 = hi.getLsbD (7 - x) := by
  rw [BitVec.getLsbD, pix_toNat]
  cases lo.getLsbD (7 - x) <;> cases hi.getLsbD (7 - x) <;> rfl

/-- Bit `k` of field `x` of a converted row is bit `k` of pixel `x` (R124). -/
theorem convertRow_bit (lo hi : Byte) {x k : Nat} (hx : x < 8) (hk : k < 2) :
    (convertRow lo hi).getLsbD (2 * x + k) = (pix lo hi x).getLsbD k := by
  rw [← convertRow_field lo hi x hx, BitVec.getLsbD_extractLsb', decide_eq_true hk, Bool.true_and]

/-! The statements. -/

/-- Settles O28: the rule's two checks in their order, and the tile's bytes at their ROM addresses. -/
theorem fetchResult : Obligations.FetchResult := by
  unfold Obligations.FetchResult
  refine fun n hn => ⟨?decoded, fun s hs => ?completion⟩
  case decoded =>
    apply decode_ofNat (i := .fetch n) ((fitsOperand_iff n).2 hn)
    rw [Instr.opcode, Instr.operandField]
    omega
  case completion =>
    rw [← tileCount_eq]
    refine ⟨exec_fetch_pastRom hs, exec_fetch_noTile hs, fun hinside htile => ?_⟩
    exact ⟨s.romTile n, exec_fetch_tile hs hinside htile, romTile_getElem s n⟩

/-- Settles O29: the region's length over 16 is `k`, so tile `k` is the first index past it and `k - 1` the last in
it. -/
theorem remainderBytesAreNoTile : Obligations.RemainderBytesAreNoTile := by
  unfold Obligations.RemainderBytesAreNoTile
  intro s k r hs hr hlength hinside
  have hcount : s.tileCount = k := by
    rw [tileCount_eq]
    omega
  refine ⟨hcount, ⟨_, exec_fetch_noTile hs hinside hcount.le, rfl, rfl⟩, fun hk => ?_⟩
  have hlast : k - 1 < s.tileCount := by omega
  exact ⟨_, exec_fetch_tile hs hinside hlast, rfl⟩

/-- Settles O30: the rule has no check, and PIX is the pixel function of row `y`'s two plane bytes. -/
theorem pixelResult : Obligations.PixelResult := by
  unfold Obligations.PixelResult
  refine ⟨fun x y => ?decoded, fun s hs => ⟨fun w hop hfield => ?illegal, fun x y => ?pixel⟩⟩
  case decoded =>
    apply decode_ofNat rfl
    rw [Instr.opcode, Instr.operandField]
    omega
  case illegal =>
    exact completesIllegal_of_untainted hs ((decode_pixel hop).trans (if_neg (by omega)))
  case pixel =>
    exact ⟨tpix s.tile x y, exec_of_rule_done (i := .pixel x y) hs rfl, pix_toNat _ _ _⟩

/-- Settles O31: the rule has no check, and field `x` of the converted row is pixel `x`, bit by bit. -/
theorem convertResult : Obligations.ConvertResult := by
  unfold Obligations.ConvertResult
  refine ⟨fun lo hi => ?decoded, fun s hs => ⟨fun w hop hfield => ?illegal, fun lo hi => ?convert⟩⟩
  case decoded =>
    apply decode_ofNat rfl
    rw [Instr.opcode, Instr.operandField]
    omega
  case illegal =>
    exact completesIllegal_of_untainted hs ((decode_convert hop).trans (if_neg (by omega)))
  case convert =>
    refine ⟨convertRow lo hi, exec_of_rule_done (i := .convert lo hi) hs rfl, fun x hx => ?_⟩
    exact ⟨(convertRow_bit lo hi hx (by decide)).trans (pix_bit0 lo hi x),
      (convertRow_bit lo hi hx (by decide)).trans (pix_bit1 lo hi x), convertRow_field lo hi x hx⟩

end Sys2Proof.Machine
end

section
/-! SUPPORT. The Spritesheet Composer: the split into groups (R141), COMPOSE by its two checks (R143), the SHEET bytes
it stores, and R143's loop of single writes against the raster the model builds at once (log entry 14). Then the
statements about COMPOSE. -/

namespace Sys2Proof.Machine

/-! Groups (R141). -/

theorem groupTiles_eq (s : State) (g : Nat) : s.groupTiles g = min 256 (s.tileCount - 256 * g) := rfl

/-! An untainted COMPOSE by its checks, in their order (R143). -/

section
variable {s : State} {g : Nat} (hs : s.tainted = false)
include hs

theorem exec_compose_pastRom (hpast : s.romLen.toNat < s.chrOffset.toNat + s.chrLength.toNat) :
    exec (.compose g) s = .next { s with busyWord := none, err := 1, irqStatus := s.irqStatus ||| 3 } := by
  obtain ⟨-, hrule⟩ | ⟨hinside, -⟩ | ⟨hinside, -⟩ := composeRule_cases g s
  · exact exec_of_rule_failed (i := .compose g) hs hrule nofun
  · exact absurd hpast (Nat.not_lt_of_le hinside)
  · exact absurd hpast (Nat.not_lt_of_le hinside)

variable (hinside : s.chrOffset.toNat + s.chrLength.toNat ≤ s.romLen.toNat)
include hinside

theorem exec_compose_noGroup (hg : s.groupCount ≤ g) :
    exec (.compose g) s = .next { s with busyWord := none, err := 5, irqStatus := s.irqStatus ||| 3 } := by
  obtain ⟨hpast, -⟩ | ⟨-, -, hrule⟩ | ⟨-, hgroup, -⟩ := composeRule_cases g s
  · exact absurd hpast (Nat.not_lt_of_le hinside)
  · exact exec_of_rule_failed (i := .compose g) hs hrule nofun
  · exact absurd hg (Nat.not_le_of_lt hgroup)

theorem exec_compose_group (hg : g < s.groupCount) :
    exec (.compose g) s = .next
      { s with
        busyWord := none, err := 0, irqStatus := s.irqStatus ||| 1,
        sheet := { cells := composeCells s (256 * g) (s.groupTiles g), draw := 0 },
        sheetGroup := BitVec.ofNat 28 g, sheetTiles := BitVec.ofNat 9 (s.groupTiles g) } := by
  obtain ⟨hpast, -⟩ | ⟨-, hnoGroup, -⟩ | ⟨-, -, hrule⟩ := composeRule_cases g s
  · exact absurd hpast (Nat.not_lt_of_le hinside)
  · exact absurd hg (Nat.not_lt_of_le hnoGroup)
  · exact exec_of_rule_done (i := .compose g) hs hrule

end

/-! The bytes of a stored raster. -/

/-- A SHEET buffer that holds a raster reads, at each pixel and channel, the raster's colour there (R63, R144). -/
theorem sheetByte_of_raster {s t : State} {first n d : Nat}
    (hsheet : t.sheet = { cells := composeCells s first n, draw := d }) {x y c : Nat} (hx : x < 128) (hy : y < 128)
    (hc : c < 3) : t.sheetByte (sheetAddr x y c) = (spanColour s first n y (x / 8) (x % 8)).channel c := by
  rw [State.sheetByte, hsheet, lookupCell_composeCells s first n x y c hx hy hc, Option.getD_some]

/-- The channel values of a raster's pixel: the colour table's where a tile is placed, else 0 (R142, R144). -/
theorem spanColour_channel (s : State) (first n y col x c : Nat) :
    (spanColour s first n y col x).channel c =
      if 16 * (y / 8) + col < n then
        (palette (pix (s.romByte (s.tileAddr (first + (16 * (y / 8) + col)) (y % 8)))
          (s.romByte (s.tileAddr (first + (16 * (y / 8) + col)) (y % 8 + 8))) x)).channel c
      else 0 := by
  rw [spanColour]
  split
  · rfl
  · exact black_channel c

/-- Three equal channels, of one of the colour table's four values (R145). -/
def Rgb.IsGrey (p : Rgb) : Prop :=
  p.channel 1 = p.channel 0 ∧ p.channel 2 = p.channel 0 ∧ p.channel 0 ∈ [0x00, 0x80, 0xA9, 0xFF]

theorem palette_isGrey (i : BitVec 2) : (palette i).IsGrey := by
  unfold Rgb.IsGrey
  revert i
  decide

theorem black_isGrey : black.IsGrey := palette_isGrey 0

theorem spanColour_isGrey (s : State) (first n y col x : Nat) : (spanColour s first n y col x).IsGrey := by
  rw [spanColour]
  split
  · exact palette_isGrey _
  · exact black_isGrey

/-! R143's loop. Its four nested loops are one list of cells written in order, every one of them a cell of the raster;
and a cell of the raster that they do not write is black, as the fill has left it. -/

/-- `m` with each of the cells written, in order. -/
def Memory.writeAll (m : Memory) (cells : List Host.Cell) : Memory := cells.foldl (fun m e => m.write e.1 e.2) m

@[simp] theorem Memory.writeAll_nil (m : Memory) : m.writeAll [] = m := rfl

@[simp] theorem Memory.writeAll_cons (m : Memory) (e : Host.Cell) (cells : List Host.Cell) :
    m.writeAll (e :: cells) = (m.write e.1 e.2).writeAll cells := rfl

/-- Where all the cells written at address `a` hold `v`, the address holds `v` after them, or what it held before if
there was no such cell. -/
theorem lookupCell_writeAll {cells : List Host.Cell} {a : Nat} {v : Byte} (hv : ∀ e ∈ cells, e.1 = a → e.2 = v)
    (m : Memory) :
    lookupCell (m.writeAll cells).cells a = if ∃ e ∈ cells, e.1 = a then some v else lookupCell m.cells a := by
  induction cells generalizing m with
  | nil => simp
  | cons e cells ih =>
    obtain ⟨hhead, htail⟩ := List.forall_mem_cons.1 hv
    rw [Memory.writeAll_cons, ih htail, Memory.write, lookupCell_writeCell]
    by_cases he : e.1 = a
    · simp [he, hhead he]
    · simp [he, Ne.symm he]

/-- The cells of the black fill (R143). -/
def blackCells : List Host.Cell := (List.range sheetBytes).map fun a => (a, 0)

/-- The cells that R143's loop writes for the tile `t` at position `i`. -/
def placedTileCells (s : State) (t i : Nat) : List Host.Cell :=
  (List.range 8).flatMap fun y => (List.range 8).flatMap fun x => (List.range 3).map fun c =>
    (sheetAddr (8 * (i % 16) + x) (8 * (i / 16) + y) c,
      (palette (pix (s.romByte (s.tileAddr t y)) (s.romByte (s.tileAddr t (y + 8))) x)).channel c)

/-- The cells that R143's loop writes for the `n` tiles from tile `first` on. -/
def placedCells (s : State) (first n : Nat) : List Host.Cell :=
  (List.range n).flatMap fun i => placedTileCells s (first + i) i

theorem composeLoop_eq_writeAll (s : State) (first n : Nat) (m : Memory) :
    composeLoop s first n m = (m.writeAll blackCells).writeAll (placedCells s first n) := by
  simp only [composeLoop, Memory.writeAll, blackCells, placedCells, placedTileCells, List.foldl_flatMap, List.foldl_map]

/-- The fill leaves 0 at every SHEET address. -/
theorem lookupCell_blackCells (m : Memory) {a : Nat} (ha : a < sheetBytes) :
    lookupCell (m.writeAll blackCells).cells a = some 0 := by
  have hzero : ∀ e ∈ blackCells, e.1 = a → e.2 = 0 := by simp [blackCells]
  rw [lookupCell_writeAll hzero, if_pos ⟨(a, 0), by simpa [blackCells] using ha, rfl⟩]

theorem mem_placedCells {s : State} {first n : Nat} {e : Host.Cell} :
    e ∈ placedCells s first n ↔
      ∃ i, i < n ∧ ∃ y, y < 8 ∧ ∃ x, x < 8 ∧ ∃ c, c < 3 ∧
        e = (sheetAddr (8 * (i % 16) + x) (8 * (i / 16) + y) c,
          (palette (pix (s.romByte (s.tileAddr (first + i) y)) (s.romByte (s.tileAddr (first + i) (y + 8))) x)).channel
            c) := by
  simp only [placedCells, placedTileCells, List.mem_flatMap, List.mem_map, List.mem_range, eq_comm (b := e)]

/-- Raster row `8 * (i / 16) + y`, grid column `i % 16`, is row `y` of the tile at position `i` (R142). -/
theorem spanColour_placed (s : State) {first n i y : Nat} (hi : i < n) (hy : y < 8) (x : Nat) :
    spanColour s first n (8 * (i / 16) + y) (i % 16) x =
      palette (pix (s.romByte (s.tileAddr (first + i) y)) (s.romByte (s.tileAddr (first + i) (y + 8))) x) := by
  have hrow : (8 * (i / 16) + y) % 8 = y := by omega
  have hposition : 16 * ((8 * (i / 16) + y) / 8) + i % 16 = i := by omega
  rw [spanColour, hposition, hrow, if_pos hi]

/-- What R143's loop writes for a tile stands in the raster. -/
theorem mem_composeCells_of_placed {s : State} {first n : Nat} (hn : n ≤ 256) {e : Host.Cell}
    (h : e ∈ placedCells s first n) : e ∈ composeCells s first n := by
  obtain ⟨i, hi, y, hy, x, hx, c, hc, rfl⟩ := mem_placedCells.1 h
  refine mem_composeCells.2 ⟨8 * (i / 16) + y, by omega, i % 16, by omega, x, hx, c, hc, ?_⟩
  rw [spanColour_placed s hi hy]

/-- A cell of the raster is one that R143's loop writes for a tile, or it is black. -/
theorem placed_or_black_of_mem_composeCells {s : State} {first n : Nat} {e : Host.Cell}
    (h : e ∈ composeCells s first n) : e ∈ placedCells s first n ∨ e.2 = 0 := by
  obtain ⟨y, -, col, hcol, x, hx, c, hc, rfl⟩ := mem_composeCells.1 h
  by_cases hplaced : 16 * (y / 8) + col < n
  · left
    have hgridCol : (16 * (y / 8) + col) % 16 = col := by omega
    have hrasterRow : 8 * ((16 * (y / 8) + col) / 16) + y % 8 = y := by omega
    refine mem_placedCells.2 ⟨16 * (y / 8) + col, hplaced, y % 8, by omega, x, hx, c, hc, ?_⟩
    rw [hgridCol, hrasterRow, spanColour, if_pos hplaced]
  · right
    rw [spanColour_channel, if_neg hplaced]

/-- R143's loop of single writes leaves the raster in the SHEET buffer, whatever the buffer held. -/
theorem lookupCell_composeLoop (s : State) (first : Nat) {n : Nat} (hn : n ≤ 256) (m : Memory) {a : Nat}
    (ha : a < sheetBytes) :
    lookupCell (composeLoop s first n m).cells a = lookupCell (composeCells s first n) a := by
  obtain ⟨v, hv⟩ := Option.isSome_iff_exists.1 ((lookupCell_composeCells_isSome s first n a).2 ha)
  have hplaced : ∀ e ∈ placedCells s first n, e.1 = a → e.2 = v := by
    rintro ⟨_, w⟩ he rfl
    have hw := lookupCell_of_mem (composeCells_wf s first n) (mem_composeCells_of_placed hn he)
    exact Option.some.inj (hw.symm.trans hv)
  rw [composeLoop_eq_writeAll, lookupCell_writeAll hplaced, lookupCell_blackCells m ha, hv]
  obtain hmem | hblack := placed_or_black_of_mem_composeCells (mem_of_lookupCell hv)
  · rw [if_pos ⟨_, hmem, rfl⟩]
  · rw [← hblack, ite_self]

/-! The statements. -/

/-- Settles O32: the rule's two checks in their order, and the raster against R143's loop. -/
theorem composeRunsItsLoop : Obligations.ComposeRunsItsLoop := by
  unfold Obligations.ComposeRunsItsLoop
  refine fun g hg => ⟨?decoded, fun s hs => ?completion⟩
  case decoded =>
    apply decode_ofNat (i := .compose g) ((fitsOperand_iff g).2 hg)
    rw [Instr.opcode, Instr.operandField]
    omega
  case completion =>
    rw [← tileCount_eq, ← groupCount_eq, ← groupTiles_eq]
    refine ⟨exec_compose_pastRom hs, exec_compose_noGroup hs, fun hinside hgroup => ?_⟩
    exact ⟨_, exec_compose_group hs hinside hgroup,
      fun a ha => (lookupCell_composeLoop s (256 * g) (groupTiles_le s g) s.sheet ha).symm⟩

/-- Settles O33: the raster's byte at each address, with the placed tile's ROM addresses written out. -/
theorem composeClosedForm : Obligations.ComposeClosedForm := by
  unfold Obligations.ComposeClosedForm
  intro s g hs hinside hg
  refine ⟨_, exec_compose_group hs hinside hg, rfl, fun x y c hx hy hc => ?_⟩
  exact (sheetByte_of_raster rfl hx hy hc).trans (spanColour_channel ..)

/-- Settles O34: code 0 means that a raster is stored, and each of its pixels is a colour of the table or black. -/
theorem composedRasterIsGrey : Obligations.ComposedRasterIsGrey := by
  unfold Obligations.ComposedRasterIsGrey
  intro s t g hs h herr x y hx hy
  obtain ⟨hfailed, -⟩ | ⟨-, first, n, hsheet⟩ := exec_compose_sheet hs h
  · exact absurd herr hfailed
  · have channel {c : Nat} (hc : c < 3) := sheetByte_of_raster hsheet hx hy hc
    have red : t.sheetByte (3 * (128 * y + x)) = _ := channel (c := 0) (by decide)
    have green : t.sheetByte (3 * (128 * y + x) + 1) = _ := channel (c := 1) (by decide)
    have blue : t.sheetByte (3 * (128 * y + x) + 2) = _ := channel (c := 2) (by decide)
    rw [red, green, blue]
    exact spanColour_isGrey ..

/-- Settles O35: a group's size and a tile's place are division by 256 with remainder. -/
theorem groupsPartitionTiles : Obligations.GroupsPartitionTiles := by
  unfold Obligations.GroupsPartitionTiles
  intro s
  have hcount := groupCount_eq s
  refine ⟨fun g hg => ?sizes, fun t ht => ⟨by omega, ?inGroup, fun g i _ hi hplace => ?unique⟩⟩
  case sizes =>
    have hsize := groupTiles_eq s g
    exact ⟨hsize, by omega, groupTiles_le s g, fun _ => by omega, fun _ => by omega⟩
  case inGroup =>
    rw [groupTiles_eq]
    omega
  case unique =>
    have hposition : i < 256 := hi.trans_le (groupTiles_le s g)
    exact ⟨by omega, by omega⟩

/-- Settles O36: the table evaluates. -/
theorem colourTable : Obligations.ColourTable := by
  unfold Obligations.ColourTable
  decide

end Sys2Proof.Machine
end

section
/-! SUPPORT. The Export Orchestrator: PREPARE's rule by its three checks in their order (R150), its rule with ROM_LEN
clamped and not (R157), and EXPORT's verdict on code 0 (R95). Then the statements about PREPARE. -/

namespace Sys2Proof.Machine

/-- A command that fails with `u` written ends with its error code and sets DONE and ERR (R165). -/
theorem exec_of_rule_error {i : Instr} {s u : State} {e : ErrCode} (hs : s.tainted = false)
    (hrule : ruleOf i s = (u, e)) (he : e.code ≠ 0) :
    exec i s = .next { u with busyWord := none, err := e.code, irqStatus := u.irqStatus ||| 3 } := by
  rw [exec_eq_runCommand, runCommand_untainted hs, hrule, conclude_error he]

/-- A state's magic is ROM bytes 0 to 3 (R101). -/
theorem validInes_header_iff (s : State) : validInes s.header = true ↔
    s.romByte 0 = 0x4E ∧ s.romByte 1 = 0x45 ∧ s.romByte 2 = 0x53 ∧ s.romByte 3 = 0x1A := by
  simp only [validInes_iff, header_getElem]

/-! PREPARE's rule by its checks, in their order (R150). Past the SizeCheck FORMAT is written, whatever follows
(R151). -/

section
variable {s : State}

theorem prepareRule_of_short (hshort : s.romLen.toNat < 16) : prepareRule s = (s, .tooSmall) := by
  obtain ⟨-, hrule⟩ | ⟨hlen, -⟩ | ⟨hlen, -⟩ | ⟨hlen, -⟩ := prepareRule_cases s
  · exact hrule
  all_goals exact absurd hshort (Nat.not_lt_of_le hlen)

variable (hlen : 16 ≤ s.romLen.toNat)
include hlen

theorem prepareRule_of_noMagic (hmagic : validInes s.header = false) :
    prepareRule s = (s.setFormat (inspectHeader s.header), .unsupportedFormat) := by
  obtain ⟨hshort, -⟩ | ⟨-, -, hrule⟩ | ⟨-, hvalid, -⟩ | ⟨-, hvalid, -⟩ := prepareRule_cases s
  · exact absurd hlen (Nat.not_le_of_lt hshort)
  · exact hrule
  all_goals exact absurd hvalid (Bool.eq_false_iff.1 hmagic)

variable (hmagic : validInes s.header = true)
include hmagic

theorem prepareRule_of_pastRom
    (hpast : s.romLen.toNat < locateOffset (s.romByte 4) (s.romByte 6) + locateLength (s.romByte 5)) :
    prepareRule s = (s.setFormat (inspectHeader s.header), .tooSmall) := by
  obtain ⟨hshort, -⟩ | ⟨-, hnone, -⟩ | ⟨-, -, -, hrule⟩ | ⟨-, -, hinside, -⟩ := prepareRule_cases s
  · exact absurd hlen (Nat.not_le_of_lt hshort)
  · exact absurd hmagic (Bool.eq_false_iff.1 hnone)
  · exact hrule
  · exact absurd hpast (Nat.not_lt_of_le hinside)

theorem prepareRule_of_inside
    (hinside : locateOffset (s.romByte 4) (s.romByte 6) + locateLength (s.romByte 5) ≤ s.romLen.toNat) :
    prepareRule s = ((s.setFormat (inspectHeader s.header)).setRegion
      (BitVec.ofNat 32 (locateOffset (s.romByte 4) (s.romByte 6))) (BitVec.ofNat 32 (locateLength (s.romByte 5))),
      .none) := by
  obtain ⟨hshort, -⟩ | ⟨-, hnone, -⟩ | ⟨-, -, hpast, -⟩ | ⟨-, -, -, hrule⟩ := prepareRule_cases s
  · exact absurd hlen (Nat.not_le_of_lt hshort)
  · exact absurd hmagic (Bool.eq_false_iff.1 hnone)
  · exact absurd hpast (Nat.not_lt_of_le hinside)
  · exact hrule

end

/-! The clamp of ROM_LEN. PREPARE compares ROM_LEN with 16 and with the region's end, and ROM_CAP covers both. -/

/-- `s` with `v` itself in ROM_LEN, not clamped. -/
def State.withRomLen (s : State) (v : Word) : State := { s with romLen := v }

/-- ROM_LEN's clamp does not change a comparison with a number ROM_CAP covers (R27). -/
theorem clampLen_lt_iff (v : Word) {n : Nat} (hn : n ≤ Config.romCapMin) : (clampLen v).toNat < n ↔ v.toNat < n := by
  have hcap := romCapMin_le_romCap
  rw [clampLen_toNat]
  omega

/-- `clampLen_lt_iff` for the other side of the comparison. -/
theorem le_clampLen_iff (v : Word) {n : Nat} (hn : n ≤ Config.romCapMin) : n ≤ (clampLen v).toNat ↔ n ≤ v.toNat := by
  rw [← Nat.not_lt, ← Nat.not_lt, clampLen_lt_iff v hn]

/-- PREPARE's rule answers alike with ROM_LEN clamped and not: each check decides alike (R157). -/
theorem prepareRule_withRomLen (s : State) (v : Word) :
    prepareRule (s.withRomLen v) =
      ((prepareRule (s.withRomLen (clampLen v))).1.withRomLen v, (prepareRule (s.withRomLen (clampLen v))).2) := by
  have hheader : 16 ≤ Config.romCapMin := by decide
  have hregion := regionEnd_le (s.romByte 4) (s.romByte 5) (s.romByte 6)
  obtain ⟨hshort, hrule⟩ | ⟨hlen, hmagic, hrule⟩ | ⟨hlen, hmagic, hpast, hrule⟩ | ⟨hlen, hmagic, hinside, hrule⟩ :=
    prepareRule_cases (s.withRomLen (clampLen v)) <;> rw [hrule]
  · exact prepareRule_of_short ((clampLen_lt_iff v hheader).1 hshort)
  · exact prepareRule_of_noMagic (s := s.withRomLen v) ((le_clampLen_iff v hheader).1 hlen) hmagic
  · exact prepareRule_of_pastRom (s := s.withRomLen v) ((le_clampLen_iff v hheader).1 hlen) hmagic
      ((clampLen_lt_iff v hregion).1 hpast)
  · exact prepareRule_of_inside (s := s.withRomLen v) ((le_clampLen_iff v hheader).1 hlen) hmagic
      ((le_clampLen_iff v hregion).1 hinside)

/-! EXPORT's verdict. -/

/-- On code 0 the verdict shows nothing and goes to the loop over the groups (R95). -/
theorem exportVerdict_of_noError {s : State} (he : s.host.e = 0) (path : String) :
    (exportVerdict path s).host.program = .exportGroup path 0 s.groupCount :: s.host.program ∧
      (exportVerdict path s).host.emitted = s.host.emitted := by
  have hgood : ¬(s.host.e = 1 ∨ s.host.e = 2) := by
    rw [he]
    decide
  obtain ⟨hprogram, -, hemitted⟩ := hostRead_host s (.register .groupCount)
  rw [exportVerdict, if_neg hgood, groupCount_toNat, State.pushOps, State.setProgram_host, hprogram]
  exact ⟨rfl, hemitted⟩

/-! The statements. -/

/-- Settles O25: the rule's three checks in their order, and the header's bytes behind each of FORMAT's flags. -/
theorem prepareResult : Obligations.PrepareResult := by
  unfold Obligations.PrepareResult
  refine ⟨decode_encode (i := .prepare) rfl, ?_⟩
  intro s hs valid nes20 off len
  have hvalid : validInes s.header = true ↔ valid := validInes_header_iff s
  have hnes20 : isNes20 s.header = true ↔ nes20 := by
    rw [isNes20_iff, hvalid, header_getElem, ← nes20Mask_iff]
  have hoff : off = locateOffset (s.romByte 4) (s.romByte 6) := (locateOffset_eq _ _).symm
  rw [hoff]
  refine ⟨fun w hop hfield => ?illegal, fun hshort => ?short, fun hlen =>
    ⟨inspectHeader s.header, ?validInes, ?nes20, fun hmagic => ?noMagic, fun hmagic hpast => ?pastRom,
      fun hmagic hinside => ?inside⟩⟩
  case illegal => exact completesIllegal_of_untainted hs ((decode_prepare hop).trans (if_neg hfield))
  case short => exact exec_of_rule_failed (i := .prepare) hs (prepareRule_of_short hshort) nofun
  case validInes => rw [inspectHeader, formatBits_validInes, hvalid]
  case nes20 => rw [inspectHeader, formatBits_nes20, hnes20]
  case noMagic =>
    have hnone := Bool.eq_false_iff.2 (mt hvalid.1 hmagic)
    exact exec_of_rule_error (i := .prepare) hs (prepareRule_of_noMagic hlen hnone) nofun
  case pastRom =>
    exact exec_of_rule_error (i := .prepare) hs (prepareRule_of_pastRom hlen (hvalid.2 hmagic) hpast) nofun
  case inside => exact exec_of_rule_done (i := .prepare) hs (prepareRule_of_inside hlen (hvalid.2 hmagic) hinside)

/-- Settles O26: the rule answers alike, and a conclusion leaves ROM_LEN alone. -/
theorem romLenClampIsHarmless : Obligations.RomLenClampIsHarmless := by
  unfold Obligations.RomLenClampIsHarmless
  intro s t v hs h
  rw [exec_untainted (s := s.withRomLen (clampLen v)) hs h]
  change exec .prepare (s.withRomLen v) = _
  rw [exec_eq_runCommand, runCommand_untainted (s := s.withRomLen v) hs, ruleOf, prepareRule_withRomLen]
  rfl

/-- Settles O27: byte 5 = 0 gives a region of length 0 and so 0 groups, on which the loop ends at once. -/
theorem emptyRegionExportsNothing : Obligations.EmptyRegionExportsNothing := by
  unfold Obligations.EmptyRegionExportsNothing
  intro s hs hlen h0 h1 h2 h3 h5 hoffset
  have hmagic := (validInes_header_iff s).2 ⟨h0, h1, h2, h3⟩
  have hlength : locateLength (s.romByte 5) = 0 := by rw [h5]; rfl
  have hexec := exec_of_rule_done (i := .prepare) hs (prepareRule_of_inside hlen hmagic (by rwa [hlength]))
  rw [hlength] at hexec
  obtain ⟨t, ht, herr, hregion, hshown⟩ : ∃ t, exec .prepare s = .next t ∧ t.err = 0 ∧
      t.chrLength.toNat = 8192 * 0 ∧ t.host.emitted = s.host.emitted := ⟨_, hexec, rfl, rfl, rfl⟩
  have hgroups : t.groupCount = 0 := groupCount_of_chrUnits hregion
  refine ⟨t, ht, herr, tileCount_of_chrUnits hregion, hgroups, fun path => ?_⟩
  obtain ⟨hprogram, hemitted⟩ := exportVerdict_of_noError (s := t.setE t.err) herr path
  exact ⟨hgroups ▸ hprogram, hemitted.trans hshown, rfl⟩

end Sys2Proof.Machine
end

section
/-! SUPPORT. The command life cycle (R160 to R168): a word submitted to an idle and to a busy block, and what a
completion leaves in the latch, in IRQ_STATUS and in STATUS.ERR. Then the statements about acceptance, overrun,
completion and the interrupt output. -/

namespace Sys2Proof.Machine

/-! Completion. -/

/-- Every error code is one of R161's. -/
theorem ErrCode.code_toNat_le (e : ErrCode) : e.code.toNat ≤ 5 := by
  cases e <;> decide

/-- No result of a command is a bit of IRQ_STATUS (R186). -/
theorem WritesResults.irqStatus_eq {s u : State} {i : Instr} (h : WritesResults s i u) : u.irqStatus = s.irqStatus := by
  cases h <;> rfl

/-- A conclusion adds DONE to IRQ_STATUS, and ERR where its code is not 0 (R165). -/
theorem conclude_irqStatus_of_eq {s u : State} (h : u.irqStatus = s.irqStatus) (code : BitVec 4) :
    (u.conclude code).irqStatus = s.irqStatus ||| if code = 0 then 1 else 3 := by
  rw [State.conclude_irqStatus, h, completionBits_or]

/-- Settles O9: untainted or tainted, `exec` answers a conclusion of a state whose IRQ_STATUS is still that of `s`; an
untainted command's code is its rule's. -/
theorem everyCommandCompletes : Obligations.EveryCommandCompletes := by
  unfold Obligations.EveryCommandCompletes
  intro i s
  rw [exec_eq_runCommand]
  cases hs : s.tainted with
  | false =>
    have hkeep := (ruleOf_answers i s).writesResults.irqStatus_eq
    exact ⟨_, runCommand_untainted hs _ _, rfl, conclude_irqStatus_of_eq hkeep _, fun _ => ErrCode.code_toNat_le _⟩
  | true =>
    have hkeep : (anyResultsOf i s).drawn.irqStatus = s.irqStatus := (anyResultsOf_writesResults i s).irqStatus_eq
    exact ⟨_, runCommand_tainted hs _ _, rfl, conclude_irqStatus_of_eq hkeep _, nofun⟩

/-! A write to CMD. -/

/-- With nothing in flight a submitted word is accepted (R164). -/
theorem submit_of_idle {s : State} (h : s.busyWord = none) (w : Word) : s.submit w = s.accept w := by
  simp [State.submit, State.busy, h]

/-- With a word in flight a submitted one is an overrun (R166). -/
theorem submit_of_busy {s : State} {w : Word} (h : s.busyWord = some w) (v : Word) : s.submit v = s.overrun := by
  simp [State.submit, State.busy, h]

/-- Settles O7: the write submits the word, and an idle block accepts it; the drawn host steps and the next draw are the
values of the model's own fields. -/
theorem cmdWriteAccepts : Obligations.CmdWriteAccepts := by
  unfold Obligations.CmdWriteAccepts
  intro s w hidle
  have hwrite : busWrite 32 0x00 w s = .next (s.submit w) := busWrite_register .cmd w s
  refine ⟨Config.hostStepsFirst s.draws, s.draws + 1, ?_⟩
  rw [hwrite, submit_of_idle hidle]
  rfl

/-- Settles O8: the write submits the word, and a busy block only sets OVR. -/
theorem cmdWriteOverruns : Obligations.CmdWriteOverruns := by
  unfold Obligations.CmdWriteOverruns
  intro s w v hbusy
  have hwrite : busWrite 32 0x00 v s = .next (s.submit v) := busWrite_register .cmd v s
  rw [hwrite, submit_of_busy hbusy]
  rfl

/-! The interrupt output. -/

/-- Settles O45: `irq` tests the conjunction of the two registers, which is 0 exactly where all three of its bits are. -/
theorem irqOutput : Obligations.IrqOutput := by
  unfold Obligations.IrqOutput
  intro s
  rw [State.irq, decide_eq_true_iff, Ne, BitVec.eq_of_getLsbD_eq_iff]
  simp

end Sys2Proof.Machine
end

section
/-! SUPPORT. The reset (R180 to R183): power-on as a reset of a block that has made no draw, and a buffer with no known
byte. Then the statements about it. -/

namespace Sys2Proof.Machine

/-- The state after power-on is what a reset makes of a block that has made no draw, so what holds after every reset
holds of it too. -/
theorem reset_eq_resetBlock : State.reset = { State.reset with draws := 0 }.resetBlock := rfl

theorem runHostOp_reset (s : State) : runHostOp .reset s = .next s.resetBlock := rfl

/-- Every ROM byte of an unknown buffer is its draw's free value (R183). -/
theorem romByte_of_unknown {s : State} {d : Nat} (h : s.rom = Memory.unknown d) (a : Nat) :
    s.romByte a = Config.anyRomByte d a := by
  rw [State.romByte, h]
  rfl

/-- Every SHEET byte of an unknown buffer is its draw's free value (R183). -/
theorem sheetByte_of_unknown {s : State} {d : Nat} (h : s.sheet = Memory.unknown d) (a : Nat) :
    s.sheetByte a = Config.anySheetByte d a := by
  rw [State.sheetByte, h]
  rfl

/-- The tile buffer after a reset is 16 zero bytes (R181). -/
theorem resetBlock_tile_getElem (s : State) (j : Nat) (h : j < 16) : s.resetBlock.tile[j] = 0 := by
  simp only [State.resetBlock_tile, State.reset, Vector.getElem_replicate]

/-- A CHR region of length 0 holds no tile and so no group (R31, R32). -/
theorem counts_of_chrLength_eq_zero {s : State} (h : s.chrLength = 0) : s.tileCount = 0 ∧ s.groupCount = 0 := by
  have tiles : s.tileCount = 0 := by simp [tileCount_eq, h]
  exact ⟨tiles, by rw [groupCount_eq, tiles]⟩

/-- With no bit pending `irq` is 0, whatever is enabled (R168). -/
theorem irq_of_irqStatus_eq_zero {s : State} (h : s.irqStatus = 0) : s.irq = false := by
  simp [State.irq, h]

/-- Settles O16: power-on is a reset, and a reset answers a state with the invariant. -/
theorem resetHasInv : Obligations.ResetHasInv := by
  unfold Obligations.ResetHasInv
  rw [reset_eq_resetBlock]
  exact inv_resetBlock _

/-- Settles O37: after power-on or a reset the state is a `resetBlock`, whose registers are power-on's constants. -/
theorem resetValues : Obligations.ResetValues := by
  unfold Obligations.ResetValues
  refine ⟨fun s => ⟨_, runHostOp_reset s⟩, fun t ht => ?_⟩
  have isReset : ∃ s : State, t = s.resetBlock := by
    obtain rfl | ⟨s, hs⟩ := ht
    · exact ⟨_, reset_eq_resetBlock⟩
    · rw [runHostOp_reset, Host.Outcome.next.injEq] at hs
      exact ⟨s, hs.symm⟩
  obtain ⟨s, rfl⟩ := isReset
  obtain ⟨tiles, groups⟩ : s.resetBlock.tileCount = 0 ∧ s.resetBlock.groupCount = 0 := counts_of_chrLength_eq_zero rfl
  exact ⟨rfl, rfl, rfl, rfl, rfl, rfl, rfl, rfl, rfl, tiles, groups, rfl, resetBlock_tile_getElem s, rfl, rfl, rfl, rfl,
    irq_of_irqStatus_eq_zero rfl⟩

/-- Settles O52: a reset leaves both buffers unknown at the next draw, and under the invariant a buffer's draw comes
before the next one. -/
theorem resetForgetsBuffers : Obligations.ResetForgetsBuffers := by
  unfold Obligations.ResetForgetsBuffers
  refine ⟨romByte_of_unknown rfl, sheetByte_of_unknown rfl, fun s => ?_⟩
  have rom : s.resetBlock.rom = Memory.unknown s.draws := State.resetBlock_rom s
  have sheet : s.resetBlock.sheet = Memory.unknown s.draws := State.resetBlock_sheet s
  have newDraw (hs : s.Inv) : s.rom.draw ≠ s.draws ∧ s.sheet.draw ≠ s.draws := ⟨hs.romDraw.ne, hs.sheetDraw.ne⟩
  exact ⟨s.resetBlock, runHostOp_reset s, rom, sheet, Nat.lt_succ_self _,
    fun a => ⟨romByte_of_unknown rom a, sheetByte_of_unknown sheet a⟩, newDraw⟩

end Sys2Proof.Machine
end
